-- ==== Sys2Proof/Word.lean ====
section
/-! DEFINITION. The two widths of the core: bytes and 16-bit values (00_scope.md R9). -/

namespace Sys2Proof

/-- A `u8`: a register A, X, Y or SP, a memory cell, an opcode, an operand byte (R9). -/
abbrev Byte := BitVec 8

/-- A `u16`: PC, an effective address, an operand address (R9, R10). -/
abbrev Word := BitVec 16

end Sys2Proof
end

