-- ==== Sys2Proof/Config.lean ====
section
/-! DEFINITION. What is fixed for a machine: the sizes of 00_scope.md R9, and the parameters of R11 to R14.
The parameters are one record of plain data that State carries and no step changes, so that a statement
holds for every setting of them (log 3 and log 4). No value of this spec needs an opaque constant. -/

namespace Sys2Proof

/-- RAM_SIZE (R9, R41). -/
def Config.ramSize : Nat := 2048

/-- MIRROR_MASK (R9, R42). -/
def Config.mirrorMask : Nat := 0x07FF

/-- WINDOW_TOP, the highest address the core backs (R9, R43). -/
def Config.windowTop : Nat := 0x1FFF

/-- STACK_BASE (R9, R28). -/
def Config.stackBase : Nat := 0x0100

/-- An entry of CYCLES (R14, D16): the base cycle count, and whether the page-crossing penalty applies. -/
structure CycleEntry where
  base : Nat
  penalty : Bool
  deriving DecidableEq, Repr

/-- The parameters of the core, with the spec's defaults. -/
structure Params where
  /-- TXS_SETS_NZ: whether TXS writes Z and N (R11, D7). -/
  txsSetsNZ : Bool := true
  /-- PLA_SETS_NZ: whether PLA writes Z and N (R12, D6). -/
  plaSetsNZ : Bool := false
  /-- OPT_FLAG_NOP: whether CLC, SEC, CLV and NOP are present (R13, D13). -/
  optFlagNop : Bool := false
  /-- CYCLES: the entries that differ from the spec's default table, as (opcode, entry) (R14, D16, log 4). -/
  cycles : List (Byte × CycleEntry) := []
  deriving DecidableEq, Repr

end Sys2Proof
end

