-- ==== Sys2Proof/Syntax.lean ====
section
/-! DEFINITION. The instructions of the core as syntax: one constructor of `Instr` per row of
spec/opcode_table.json, its mnemonic, and its operand as one of the nine memory modes of R61. -/

namespace Sys2Proof

/-- The 39 mnemonics of spec/opcode_table.json, in the order of the family files 41 to 47 (R4, R6). -/
inductive Mnemonic where
  | lda | ldx | ldy
  | sta | stx | sty
  | tax | tay | txa | tya | tsx | txs
  | pha | php | pla | plp
  | and | eor | ora | bit
  | adc | sbc | cmp | cpx | cpy | inc | dec | inx | iny | dex | dey
  | asl | lsr | rol | ror
  | clc | sec | clv | nop
  deriving DecidableEq, Repr

/-- The eleven formats of R61. -/
inductive Mode where
  | implied | accumulator | immediate | zeroPage | zeroPageX | zeroPageY
  | absolute | absoluteX | absoluteY | indirectX | indirectY
  deriving DecidableEq, Repr

/-- An instruction's operand: one of the nine memory modes of R61 with the bits its operand bytes give
(R62). Implied and Accumulator instructions have none. -/
inductive Operand where
  /-- Immediate, R82. -/
  | imm (v : Byte)
  /-- ZeroPage, R83. -/
  | zp (z : Byte)
  /-- ZeroPage,X, R84. -/
  | zpx (z : Byte)
  /-- ZeroPage,Y, R85. -/
  | zpy (z : Byte)
  /-- Absolute, R86. -/
  | abs (w : Word)
  /-- Absolute,X, R87. -/
  | absx (w : Word)
  /-- Absolute,Y, R88. -/
  | absy (w : Word)
  /-- (Indirect,X), R89. -/
  | izx (z : Byte)
  /-- (Indirect),Y, R90. -/
  | izy (z : Byte)
  deriving DecidableEq, Repr

/-- The instructions: one constructor per row of spec/opcode_table.json. `v` is an immediate byte, `z` a
zero-page byte, `w` a 16-bit address with its two bytes already joined (R62). -/
inductive Instr where
  -- load (41_load_store.md)
  /-- 0xA1, `LDA ($nn,X)`, R100. -/
  | ldaIzx (z : Byte)
  /-- 0xA5, `LDA $nn`, R100. -/
  | ldaZp (z : Byte)
  /-- 0xA9, `LDA #$nn`, R100. -/
  | ldaImm (v : Byte)
  /-- 0xAD, `LDA $hhll`, R100. -/
  | ldaAbs (w : Word)
  /-- 0xB1, `LDA ($nn),Y`, R100. -/
  | ldaIzy (z : Byte)
  /-- 0xB5, `LDA $nn,X`, R100. -/
  | ldaZpx (z : Byte)
  /-- 0xB9, `LDA $hhll,Y`, R100. -/
  | ldaAbsy (w : Word)
  /-- 0xBD, `LDA $hhll,X`, R100. -/
  | ldaAbsx (w : Word)
  /-- 0xA2, `LDX #$nn`, R101. -/
  | ldxImm (v : Byte)
  /-- 0xA6, `LDX $nn`, R101. -/
  | ldxZp (z : Byte)
  /-- 0xAE, `LDX $hhll`, R101. -/
  | ldxAbs (w : Word)
  /-- 0xB6, `LDX $nn,Y`, R101. -/
  | ldxZpy (z : Byte)
  /-- 0xBE, `LDX $hhll,Y`, R101. -/
  | ldxAbsy (w : Word)
  /-- 0xA0, `LDY #$nn`, R102. -/
  | ldyImm (v : Byte)
  /-- 0xA4, `LDY $nn`, R102. -/
  | ldyZp (z : Byte)
  /-- 0xAC, `LDY $hhll`, R102. -/
  | ldyAbs (w : Word)
  /-- 0xB4, `LDY $nn,X`, R102. -/
  | ldyZpx (z : Byte)
  /-- 0xBC, `LDY $hhll,X`, R102. -/
  | ldyAbsx (w : Word)
  -- store (41_load_store.md)
  /-- 0x81, `STA ($nn,X)`, R103. -/
  | staIzx (z : Byte)
  /-- 0x85, `STA $nn`, R103. -/
  | staZp (z : Byte)
  /-- 0x8D, `STA $hhll`, R103. -/
  | staAbs (w : Word)
  /-- 0x91, `STA ($nn),Y`, R103. -/
  | staIzy (z : Byte)
  /-- 0x95, `STA $nn,X`, R103. -/
  | staZpx (z : Byte)
  /-- 0x99, `STA $hhll,Y`, R103. -/
  | staAbsy (w : Word)
  /-- 0x9D, `STA $hhll,X`, R103. -/
  | staAbsx (w : Word)
  /-- 0x86, `STX $nn`, R104. -/
  | stxZp (z : Byte)
  /-- 0x8E, `STX $hhll`, R104. -/
  | stxAbs (w : Word)
  /-- 0x96, `STX $nn,Y`, R104. -/
  | stxZpy (z : Byte)
  /-- 0x84, `STY $nn`, R105. -/
  | styZp (z : Byte)
  /-- 0x8C, `STY $hhll`, R105. -/
  | styAbs (w : Word)
  /-- 0x94, `STY $nn,X`, R105. -/
  | styZpx (z : Byte)
  -- transfer (42_transfer.md)
  /-- 0xAA, `TAX`, R110. -/
  | tax
  /-- 0xA8, `TAY`, R111. -/
  | tay
  /-- 0x8A, `TXA`, R112. -/
  | txa
  /-- 0x98, `TYA`, R113. -/
  | tya
  /-- 0xBA, `TSX`, R114. -/
  | tsx
  /-- 0x9A, `TXS`, R115. -/
  | txs
  -- stack (43_stack.md)
  /-- 0x48, `PHA`, R122. -/
  | pha
  /-- 0x08, `PHP`, R123. -/
  | php
  /-- 0x68, `PLA`, R124. -/
  | pla
  /-- 0x28, `PLP`, R125. -/
  | plp
  -- logical (44_logical.md)
  /-- 0x21, `AND ($nn,X)`, R130. -/
  | andIzx (z : Byte)
  /-- 0x25, `AND $nn`, R130. -/
  | andZp (z : Byte)
  /-- 0x29, `AND #$nn`, R130. -/
  | andImm (v : Byte)
  /-- 0x2D, `AND $hhll`, R130. -/
  | andAbs (w : Word)
  /-- 0x31, `AND ($nn),Y`, R130. -/
  | andIzy (z : Byte)
  /-- 0x35, `AND $nn,X`, R130. -/
  | andZpx (z : Byte)
  /-- 0x39, `AND $hhll,Y`, R130. -/
  | andAbsy (w : Word)
  /-- 0x3D, `AND $hhll,X`, R130. -/
  | andAbsx (w : Word)
  /-- 0x41, `EOR ($nn,X)`, R131. -/
  | eorIzx (z : Byte)
  /-- 0x45, `EOR $nn`, R131. -/
  | eorZp (z : Byte)
  /-- 0x49, `EOR #$nn`, R131. -/
  | eorImm (v : Byte)
  /-- 0x4D, `EOR $hhll`, R131. -/
  | eorAbs (w : Word)
  /-- 0x51, `EOR ($nn),Y`, R131. -/
  | eorIzy (z : Byte)
  /-- 0x55, `EOR $nn,X`, R131. -/
  | eorZpx (z : Byte)
  /-- 0x59, `EOR $hhll,Y`, R131. -/
  | eorAbsy (w : Word)
  /-- 0x5D, `EOR $hhll,X`, R131. -/
  | eorAbsx (w : Word)
  /-- 0x01, `ORA ($nn,X)`, R132. -/
  | oraIzx (z : Byte)
  /-- 0x05, `ORA $nn`, R132. -/
  | oraZp (z : Byte)
  /-- 0x09, `ORA #$nn`, R132. -/
  | oraImm (v : Byte)
  /-- 0x0D, `ORA $hhll`, R132. -/
  | oraAbs (w : Word)
  /-- 0x11, `ORA ($nn),Y`, R132. -/
  | oraIzy (z : Byte)
  /-- 0x15, `ORA $nn,X`, R132. -/
  | oraZpx (z : Byte)
  /-- 0x19, `ORA $hhll,Y`, R132. -/
  | oraAbsy (w : Word)
  /-- 0x1D, `ORA $hhll,X`, R132. -/
  | oraAbsx (w : Word)
  /-- 0x24, `BIT $nn`, R133. -/
  | bitZp (z : Byte)
  /-- 0x2C, `BIT $hhll`, R133. -/
  | bitAbs (w : Word)
  -- arithmetic (45_arithmetic.md)
  /-- 0x61, `ADC ($nn,X)`, R141. -/
  | adcIzx (z : Byte)
  /-- 0x65, `ADC $nn`, R141. -/
  | adcZp (z : Byte)
  /-- 0x69, `ADC #$nn`, R141. -/
  | adcImm (v : Byte)
  /-- 0x6D, `ADC $hhll`, R141. -/
  | adcAbs (w : Word)
  /-- 0x71, `ADC ($nn),Y`, R141. -/
  | adcIzy (z : Byte)
  /-- 0x75, `ADC $nn,X`, R141. -/
  | adcZpx (z : Byte)
  /-- 0x79, `ADC $hhll,Y`, R141. -/
  | adcAbsy (w : Word)
  /-- 0x7D, `ADC $hhll,X`, R141. -/
  | adcAbsx (w : Word)
  /-- 0xE1, `SBC ($nn,X)`, R142. -/
  | sbcIzx (z : Byte)
  /-- 0xE5, `SBC $nn`, R142. -/
  | sbcZp (z : Byte)
  /-- 0xE9, `SBC #$nn`, R142. -/
  | sbcImm (v : Byte)
  /-- 0xED, `SBC $hhll`, R142. -/
  | sbcAbs (w : Word)
  /-- 0xF1, `SBC ($nn),Y`, R142. -/
  | sbcIzy (z : Byte)
  /-- 0xF5, `SBC $nn,X`, R142. -/
  | sbcZpx (z : Byte)
  /-- 0xF9, `SBC $hhll,Y`, R142. -/
  | sbcAbsy (w : Word)
  /-- 0xFD, `SBC $hhll,X`, R142. -/
  | sbcAbsx (w : Word)
  /-- 0xC1, `CMP ($nn,X)`, R144. -/
  | cmpIzx (z : Byte)
  /-- 0xC5, `CMP $nn`, R144. -/
  | cmpZp (z : Byte)
  /-- 0xC9, `CMP #$nn`, R144. -/
  | cmpImm (v : Byte)
  /-- 0xCD, `CMP $hhll`, R144. -/
  | cmpAbs (w : Word)
  /-- 0xD1, `CMP ($nn),Y`, R144. -/
  | cmpIzy (z : Byte)
  /-- 0xD5, `CMP $nn,X`, R144. -/
  | cmpZpx (z : Byte)
  /-- 0xD9, `CMP $hhll,Y`, R144. -/
  | cmpAbsy (w : Word)
  /-- 0xDD, `CMP $hhll,X`, R144. -/
  | cmpAbsx (w : Word)
  /-- 0xE0, `CPX #$nn`, R145. -/
  | cpxImm (v : Byte)
  /-- 0xE4, `CPX $nn`, R145. -/
  | cpxZp (z : Byte)
  /-- 0xEC, `CPX $hhll`, R145. -/
  | cpxAbs (w : Word)
  /-- 0xC0, `CPY #$nn`, R146. -/
  | cpyImm (v : Byte)
  /-- 0xC4, `CPY $nn`, R146. -/
  | cpyZp (z : Byte)
  /-- 0xCC, `CPY $hhll`, R146. -/
  | cpyAbs (w : Word)
  /-- 0xE6, `INC $nn`, R147. -/
  | incZp (z : Byte)
  /-- 0xEE, `INC $hhll`, R147. -/
  | incAbs (w : Word)
  /-- 0xF6, `INC $nn,X`, R147. -/
  | incZpx (z : Byte)
  /-- 0xFE, `INC $hhll,X`, R147. -/
  | incAbsx (w : Word)
  /-- 0xC6, `DEC $nn`, R148. -/
  | decZp (z : Byte)
  /-- 0xCE, `DEC $hhll`, R148. -/
  | decAbs (w : Word)
  /-- 0xD6, `DEC $nn,X`, R148. -/
  | decZpx (z : Byte)
  /-- 0xDE, `DEC $hhll,X`, R148. -/
  | decAbsx (w : Word)
  /-- 0xE8, `INX`, R149. -/
  | inx
  /-- 0xC8, `INY`, R150. -/
  | iny
  /-- 0xCA, `DEX`, R151. -/
  | dex
  /-- 0x88, `DEY`, R152. -/
  | dey
  -- shift (46_shift.md)
  /-- 0x06, `ASL $nn`, R160. -/
  | aslZp (z : Byte)
  /-- 0x0A, `ASL A`, R160. -/
  | aslA
  /-- 0x0E, `ASL $hhll`, R160. -/
  | aslAbs (w : Word)
  /-- 0x16, `ASL $nn,X`, R160. -/
  | aslZpx (z : Byte)
  /-- 0x1E, `ASL $hhll,X`, R160. -/
  | aslAbsx (w : Word)
  /-- 0x46, `LSR $nn`, R161. -/
  | lsrZp (z : Byte)
  /-- 0x4A, `LSR A`, R161. -/
  | lsrA
  /-- 0x4E, `LSR $hhll`, R161. -/
  | lsrAbs (w : Word)
  /-- 0x56, `LSR $nn,X`, R161. -/
  | lsrZpx (z : Byte)
  /-- 0x5E, `LSR $hhll,X`, R161. -/
  | lsrAbsx (w : Word)
  /-- 0x26, `ROL $nn`, R162. -/
  | rolZp (z : Byte)
  /-- 0x2A, `ROL A`, R162. -/
  | rolA
  /-- 0x2E, `ROL $hhll`, R162. -/
  | rolAbs (w : Word)
  /-- 0x36, `ROL $nn,X`, R162. -/
  | rolZpx (z : Byte)
  /-- 0x3E, `ROL $hhll,X`, R162. -/
  | rolAbsx (w : Word)
  /-- 0x66, `ROR $nn`, R163. -/
  | rorZp (z : Byte)
  /-- 0x6A, `ROR A`, R163. -/
  | rorA
  /-- 0x6E, `ROR $hhll`, R163. -/
  | rorAbs (w : Word)
  /-- 0x76, `ROR $nn,X`, R163. -/
  | rorZpx (z : Byte)
  /-- 0x7E, `ROR $hhll,X`, R163. -/
  | rorAbsx (w : Word)
  -- flagNop (47_optional_flag_nop.md)
  /-- 0x18, `CLC`, R171. -/
  | clc
  /-- 0x38, `SEC`, R172. -/
  | sec
  /-- 0xB8, `CLV`, R173. -/
  | clv
  /-- 0xEA, `NOP`, R174. -/
  | nop
  deriving DecidableEq, Repr

/-- The mnemonic of an instruction: its row's in spec/opcode_table.json. -/
def Instr.mnemonic : Instr → Mnemonic
  | .ldaIzx _ | .ldaZp _ | .ldaImm _ | .ldaAbs _ | .ldaIzy _ | .ldaZpx _ | .ldaAbsy _ | .ldaAbsx _ => .lda
  | .ldxImm _ | .ldxZp _ | .ldxAbs _ | .ldxZpy _ | .ldxAbsy _ => .ldx
  | .ldyImm _ | .ldyZp _ | .ldyAbs _ | .ldyZpx _ | .ldyAbsx _ => .ldy
  | .staIzx _ | .staZp _ | .staAbs _ | .staIzy _ | .staZpx _ | .staAbsy _ | .staAbsx _ => .sta
  | .stxZp _ | .stxAbs _ | .stxZpy _ => .stx
  | .styZp _ | .styAbs _ | .styZpx _ => .sty
  | .tax => .tax
  | .tay => .tay
  | .txa => .txa
  | .tya => .tya
  | .tsx => .tsx
  | .txs => .txs
  | .pha => .pha
  | .php => .php
  | .pla => .pla
  | .plp => .plp
  | .andIzx _ | .andZp _ | .andImm _ | .andAbs _ | .andIzy _ | .andZpx _ | .andAbsy _ | .andAbsx _ => .and
  | .eorIzx _ | .eorZp _ | .eorImm _ | .eorAbs _ | .eorIzy _ | .eorZpx _ | .eorAbsy _ | .eorAbsx _ => .eor
  | .oraIzx _ | .oraZp _ | .oraImm _ | .oraAbs _ | .oraIzy _ | .oraZpx _ | .oraAbsy _ | .oraAbsx _ => .ora
  | .bitZp _ | .bitAbs _ => .bit
  | .adcIzx _ | .adcZp _ | .adcImm _ | .adcAbs _ | .adcIzy _ | .adcZpx _ | .adcAbsy _ | .adcAbsx _ => .adc
  | .sbcIzx _ | .sbcZp _ | .sbcImm _ | .sbcAbs _ | .sbcIzy _ | .sbcZpx _ | .sbcAbsy _ | .sbcAbsx _ => .sbc
  | .cmpIzx _ | .cmpZp _ | .cmpImm _ | .cmpAbs _ | .cmpIzy _ | .cmpZpx _ | .cmpAbsy _ | .cmpAbsx _ => .cmp
  | .cpxImm _ | .cpxZp _ | .cpxAbs _ => .cpx
  | .cpyImm _ | .cpyZp _ | .cpyAbs _ => .cpy
  | .incZp _ | .incAbs _ | .incZpx _ | .incAbsx _ => .inc
  | .decZp _ | .decAbs _ | .decZpx _ | .decAbsx _ => .dec
  | .inx => .inx
  | .iny => .iny
  | .dex => .dex
  | .dey => .dey
  | .aslZp _ | .aslA | .aslAbs _ | .aslZpx _ | .aslAbsx _ => .asl
  | .lsrZp _ | .lsrA | .lsrAbs _ | .lsrZpx _ | .lsrAbsx _ => .lsr
  | .rolZp _ | .rolA | .rolAbs _ | .rolZpx _ | .rolAbsx _ => .rol
  | .rorZp _ | .rorA | .rorAbs _ | .rorZpx _ | .rorAbsx _ => .ror
  | .clc => .clc
  | .sec => .sec
  | .clv => .clv
  | .nop => .nop

/-- Whether a mnemonic is one of the four that are present only with OPT_FLAG_NOP (R13, R170). -/
def Mnemonic.optional : Mnemonic → Bool
  | .clc | .sec | .clv | .nop => true
  | _ => false

end Sys2Proof
end

