-- ==== Sys2Proof/WellFormed.lean ====
section
/-! DEFINITION. Which instructions the core has. Operand widths are the types' own, so the one check left
is the presence of the four optional instructions (R13, R170). -/

namespace Sys2Proof

/-- An instruction the core has when OPT_FLAG_NOP is `opt`: CLC, SEC, CLV and NOP need the option. -/
def Instr.wf (opt : Bool) (i : Instr) : Bool := !i.mnemonic.optional || opt

end Sys2Proof
end

