-- ==== Sys2Proof/Decode.lean ====
section
/-! DEFINITION. The format and length of an instruction, the opcode table (30_encoding.md), the decoder,
the encoder and the byte-order helpers they use. Every opcode value but 0xA9 and 0xBD, and every cycle count
but theirs, is the spec's own general knowledge (D11, D16; log 7 and log 4). -/

namespace Sys2Proof

/-- The format an operand belongs to (R61). -/
def Operand.mode : Operand → Mode
  | .imm _ => .immediate
  | .zp _ => .zeroPage
  | .zpx _ => .zeroPageX
  | .zpy _ => .zeroPageY
  | .abs _ => .absolute
  | .absx _ => .absoluteX
  | .absy _ => .absoluteY
  | .izx _ => .indirectX
  | .izy _ => .indirectY

/-- The number of bytes of an instruction of a format, the opcode byte counted (R61, R64). -/
def Mode.length : Mode → Nat
  | .implied | .accumulator => 1
  | .immediate | .zeroPage | .zeroPageX | .zeroPageY | .indirectX | .indirectY => 2
  | .absolute | .absoluteX | .absoluteY => 3

/-- The operand of an instruction, for the nine memory modes; none for Implied and Accumulator. -/
def Instr.operand : Instr → Option Operand
  | .ldaIzx z => some (.izx z)
  | .ldaZp z => some (.zp z)
  | .ldaImm v => some (.imm v)
  | .ldaAbs w => some (.abs w)
  | .ldaIzy z => some (.izy z)
  | .ldaZpx z => some (.zpx z)
  | .ldaAbsy w => some (.absy w)
  | .ldaAbsx w => some (.absx w)
  | .ldxImm v => some (.imm v)
  | .ldxZp z => some (.zp z)
  | .ldxAbs w => some (.abs w)
  | .ldxZpy z => some (.zpy z)
  | .ldxAbsy w => some (.absy w)
  | .ldyImm v => some (.imm v)
  | .ldyZp z => some (.zp z)
  | .ldyAbs w => some (.abs w)
  | .ldyZpx z => some (.zpx z)
  | .ldyAbsx w => some (.absx w)
  | .staIzx z => some (.izx z)
  | .staZp z => some (.zp z)
  | .staAbs w => some (.abs w)
  | .staIzy z => some (.izy z)
  | .staZpx z => some (.zpx z)
  | .staAbsy w => some (.absy w)
  | .staAbsx w => some (.absx w)
  | .stxZp z => some (.zp z)
  | .stxAbs w => some (.abs w)
  | .stxZpy z => some (.zpy z)
  | .styZp z => some (.zp z)
  | .styAbs w => some (.abs w)
  | .styZpx z => some (.zpx z)
  | .andIzx z => some (.izx z)
  | .andZp z => some (.zp z)
  | .andImm v => some (.imm v)
  | .andAbs w => some (.abs w)
  | .andIzy z => some (.izy z)
  | .andZpx z => some (.zpx z)
  | .andAbsy w => some (.absy w)
  | .andAbsx w => some (.absx w)
  | .eorIzx z => some (.izx z)
  | .eorZp z => some (.zp z)
  | .eorImm v => some (.imm v)
  | .eorAbs w => some (.abs w)
  | .eorIzy z => some (.izy z)
  | .eorZpx z => some (.zpx z)
  | .eorAbsy w => some (.absy w)
  | .eorAbsx w => some (.absx w)
  | .oraIzx z => some (.izx z)
  | .oraZp z => some (.zp z)
  | .oraImm v => some (.imm v)
  | .oraAbs w => some (.abs w)
  | .oraIzy z => some (.izy z)
  | .oraZpx z => some (.zpx z)
  | .oraAbsy w => some (.absy w)
  | .oraAbsx w => some (.absx w)
  | .bitZp z => some (.zp z)
  | .bitAbs w => some (.abs w)
  | .adcIzx z => some (.izx z)
  | .adcZp z => some (.zp z)
  | .adcImm v => some (.imm v)
  | .adcAbs w => some (.abs w)
  | .adcIzy z => some (.izy z)
  | .adcZpx z => some (.zpx z)
  | .adcAbsy w => some (.absy w)
  | .adcAbsx w => some (.absx w)
  | .sbcIzx z => some (.izx z)
  | .sbcZp z => some (.zp z)
  | .sbcImm v => some (.imm v)
  | .sbcAbs w => some (.abs w)
  | .sbcIzy z => some (.izy z)
  | .sbcZpx z => some (.zpx z)
  | .sbcAbsy w => some (.absy w)
  | .sbcAbsx w => some (.absx w)
  | .cmpIzx z => some (.izx z)
  | .cmpZp z => some (.zp z)
  | .cmpImm v => some (.imm v)
  | .cmpAbs w => some (.abs w)
  | .cmpIzy z => some (.izy z)
  | .cmpZpx z => some (.zpx z)
  | .cmpAbsy w => some (.absy w)
  | .cmpAbsx w => some (.absx w)
  | .cpxImm v => some (.imm v)
  | .cpxZp z => some (.zp z)
  | .cpxAbs w => some (.abs w)
  | .cpyImm v => some (.imm v)
  | .cpyZp z => some (.zp z)
  | .cpyAbs w => some (.abs w)
  | .incZp z => some (.zp z)
  | .incAbs w => some (.abs w)
  | .incZpx z => some (.zpx z)
  | .incAbsx w => some (.absx w)
  | .decZp z => some (.zp z)
  | .decAbs w => some (.abs w)
  | .decZpx z => some (.zpx z)
  | .decAbsx w => some (.absx w)
  | .aslZp z => some (.zp z)
  | .aslAbs w => some (.abs w)
  | .aslZpx z => some (.zpx z)
  | .aslAbsx w => some (.absx w)
  | .lsrZp z => some (.zp z)
  | .lsrAbs w => some (.abs w)
  | .lsrZpx z => some (.zpx z)
  | .lsrAbsx w => some (.absx w)
  | .rolZp z => some (.zp z)
  | .rolAbs w => some (.abs w)
  | .rolZpx z => some (.zpx z)
  | .rolAbsx w => some (.absx w)
  | .rorZp z => some (.zp z)
  | .rorAbs w => some (.abs w)
  | .rorZpx z => some (.zpx z)
  | .rorAbsx w => some (.absx w)
  | .aslA | .lsrA | .rolA | .rorA => none
  | .tax | .tay | .txa | .tya | .tsx | .txs | .pha | .php | .pla | .plp | .inx | .iny
  | .dex | .dey | .clc | .sec | .clv | .nop => none

/-- The format of an instruction (R61): Accumulator is the operand-less form of the four shifts (R91). -/
def Instr.mode (i : Instr) : Mode :=
  match i.operand with
  | some o => o.mode
  | none =>
    match i.mnemonic with
    | .asl | .lsr | .rol | .ror => .accumulator
    | _ => .implied

/-- The length of an instruction in bytes (R64). -/
def Instr.length (i : Instr) : Nat := i.mode.length

/-- `hi ++ lo` of the spec's notation: "low + (high << 8)" (R48, R62). -/
def joinBytes (hi lo : Byte) : Word := BitVec.ofNat 16 (lo.toNat + hi.toNat * 256)

/-- `lo(a)`: bits 7 to 0. -/
def loByte (w : Word) : Byte := BitVec.ofNat 8 w.toNat

/-- `hi(a)`: bits 15 to 8. -/
def hiByte (w : Word) : Byte := BitVec.ofNat 8 (w.toNat / 256)

/-- How the operand bytes of a row become an instruction: none, one byte, or an address of two. -/
inductive Form where
  | single (i : Instr)
  | byte (f : Byte → Instr)
  | word (f : Word → Instr)

/-- The instruction of a form with operand bits zero: it carries the row's mnemonic and mode. -/
def Form.sample : Form → Instr
  | .single i => i
  | .byte f => f 0
  | .word f => f 0

/-- The instruction a form makes of the operand bytes `get 1` and `get 2`, asked for in order, low byte first
(R56, R62). -/
def Form.read {ε : Type} (form : Form) (get : Nat → Except ε Byte) : Except ε Instr :=
  match form with
  | .single i => .ok i
  | .byte f =>
    match get 1 with
    | .error e => .error e
    | .ok b => .ok (f b)
  | .word f =>
    match get 1 with
    | .error e => .error e
    | .ok lo =>
      match get 2 with
      | .error e => .error e
      | .ok hi => .ok (f (joinBytes hi lo))

/-- The `behavior` of a descriptor (R63) as plain data: the addressing-mode resolution and the operation with
its flag update that it composes (R2, R93). `State.invoke` in Machine/Fetch.lean is what it does (log
26). -/
structure Behavior where
  resolver : Mode
  operation : Mnemonic
  deriving DecidableEq, Repr

/-- A row of the opcode table (R63): the opcode, its default entry of CYCLES, which is the base count (R14)
and the penalty mark (R94), and the instructions of the row. -/
structure Descriptor where
  opcode : Byte
  base : Nat
  penalty : Bool
  form : Form

def Descriptor.mnemonic (d : Descriptor) : Mnemonic := d.form.sample.mnemonic
def Descriptor.mode (d : Descriptor) : Mode := d.form.sample.mode
/-- `operandLength` of the source: the total length in bytes (R64). -/
def Descriptor.length (d : Descriptor) : Nat := d.mode.length

/-- `behavior` of the source (R63). -/
def Descriptor.behavior (d : Descriptor) : Behavior := { resolver := d.mode, operation := d.mnemonic }

/-- The load rows (41_load_store.md). -/
def loadRows : List Descriptor :=
  [⟨0xA1#8, 6, false, .byte .ldaIzx⟩,
   ⟨0xA5#8, 3, false, .byte .ldaZp⟩,
   ⟨0xA9#8, 2, false, .byte .ldaImm⟩,
   ⟨0xAD#8, 4, false, .word .ldaAbs⟩,
   ⟨0xB1#8, 5, true, .byte .ldaIzy⟩,
   ⟨0xB5#8, 4, false, .byte .ldaZpx⟩,
   ⟨0xB9#8, 4, true, .word .ldaAbsy⟩,
   ⟨0xBD#8, 4, true, .word .ldaAbsx⟩,
   ⟨0xA2#8, 2, false, .byte .ldxImm⟩,
   ⟨0xA6#8, 3, false, .byte .ldxZp⟩,
   ⟨0xAE#8, 4, false, .word .ldxAbs⟩,
   ⟨0xB6#8, 4, false, .byte .ldxZpy⟩,
   ⟨0xBE#8, 4, true, .word .ldxAbsy⟩,
   ⟨0xA0#8, 2, false, .byte .ldyImm⟩,
   ⟨0xA4#8, 3, false, .byte .ldyZp⟩,
   ⟨0xAC#8, 4, false, .word .ldyAbs⟩,
   ⟨0xB4#8, 4, false, .byte .ldyZpx⟩,
   ⟨0xBC#8, 4, true, .word .ldyAbsx⟩]

/-- The store rows (41_load_store.md). -/
def storeRows : List Descriptor :=
  [⟨0x81#8, 6, false, .byte .staIzx⟩,
   ⟨0x85#8, 3, false, .byte .staZp⟩,
   ⟨0x8D#8, 4, false, .word .staAbs⟩,
   ⟨0x91#8, 6, false, .byte .staIzy⟩,
   ⟨0x95#8, 4, false, .byte .staZpx⟩,
   ⟨0x99#8, 5, false, .word .staAbsy⟩,
   ⟨0x9D#8, 5, false, .word .staAbsx⟩,
   ⟨0x86#8, 3, false, .byte .stxZp⟩,
   ⟨0x8E#8, 4, false, .word .stxAbs⟩,
   ⟨0x96#8, 4, false, .byte .stxZpy⟩,
   ⟨0x84#8, 3, false, .byte .styZp⟩,
   ⟨0x8C#8, 4, false, .word .styAbs⟩,
   ⟨0x94#8, 4, false, .byte .styZpx⟩]

/-- The transfer rows (42_transfer.md). -/
def transferRows : List Descriptor :=
  [⟨0xAA#8, 2, false, .single .tax⟩,
   ⟨0xA8#8, 2, false, .single .tay⟩,
   ⟨0x8A#8, 2, false, .single .txa⟩,
   ⟨0x98#8, 2, false, .single .tya⟩,
   ⟨0xBA#8, 2, false, .single .tsx⟩,
   ⟨0x9A#8, 2, false, .single .txs⟩]

/-- The stack rows (43_stack.md). -/
def stackRows : List Descriptor :=
  [⟨0x48#8, 3, false, .single .pha⟩,
   ⟨0x08#8, 3, false, .single .php⟩,
   ⟨0x68#8, 4, false, .single .pla⟩,
   ⟨0x28#8, 4, false, .single .plp⟩]

/-- The logical rows (44_logical.md). -/
def logicalRows : List Descriptor :=
  [⟨0x21#8, 6, false, .byte .andIzx⟩,
   ⟨0x25#8, 3, false, .byte .andZp⟩,
   ⟨0x29#8, 2, false, .byte .andImm⟩,
   ⟨0x2D#8, 4, false, .word .andAbs⟩,
   ⟨0x31#8, 5, true, .byte .andIzy⟩,
   ⟨0x35#8, 4, false, .byte .andZpx⟩,
   ⟨0x39#8, 4, true, .word .andAbsy⟩,
   ⟨0x3D#8, 4, true, .word .andAbsx⟩,
   ⟨0x41#8, 6, false, .byte .eorIzx⟩,
   ⟨0x45#8, 3, false, .byte .eorZp⟩,
   ⟨0x49#8, 2, false, .byte .eorImm⟩,
   ⟨0x4D#8, 4, false, .word .eorAbs⟩,
   ⟨0x51#8, 5, true, .byte .eorIzy⟩,
   ⟨0x55#8, 4, false, .byte .eorZpx⟩,
   ⟨0x59#8, 4, true, .word .eorAbsy⟩,
   ⟨0x5D#8, 4, true, .word .eorAbsx⟩,
   ⟨0x01#8, 6, false, .byte .oraIzx⟩,
   ⟨0x05#8, 3, false, .byte .oraZp⟩,
   ⟨0x09#8, 2, false, .byte .oraImm⟩,
   ⟨0x0D#8, 4, false, .word .oraAbs⟩] ++
  [⟨0x11#8, 5, true, .byte .oraIzy⟩,
   ⟨0x15#8, 4, false, .byte .oraZpx⟩,
   ⟨0x19#8, 4, true, .word .oraAbsy⟩,
   ⟨0x1D#8, 4, true, .word .oraAbsx⟩,
   ⟨0x24#8, 3, false, .byte .bitZp⟩,
   ⟨0x2C#8, 4, false, .word .bitAbs⟩]

/-- The arithmetic rows (45_arithmetic.md). -/
def arithmeticRows : List Descriptor :=
  [⟨0x61#8, 6, false, .byte .adcIzx⟩,
   ⟨0x65#8, 3, false, .byte .adcZp⟩,
   ⟨0x69#8, 2, false, .byte .adcImm⟩,
   ⟨0x6D#8, 4, false, .word .adcAbs⟩,
   ⟨0x71#8, 5, true, .byte .adcIzy⟩,
   ⟨0x75#8, 4, false, .byte .adcZpx⟩,
   ⟨0x79#8, 4, true, .word .adcAbsy⟩,
   ⟨0x7D#8, 4, true, .word .adcAbsx⟩,
   ⟨0xE1#8, 6, false, .byte .sbcIzx⟩,
   ⟨0xE5#8, 3, false, .byte .sbcZp⟩,
   ⟨0xE9#8, 2, false, .byte .sbcImm⟩,
   ⟨0xED#8, 4, false, .word .sbcAbs⟩,
   ⟨0xF1#8, 5, true, .byte .sbcIzy⟩,
   ⟨0xF5#8, 4, false, .byte .sbcZpx⟩,
   ⟨0xF9#8, 4, true, .word .sbcAbsy⟩,
   ⟨0xFD#8, 4, true, .word .sbcAbsx⟩,
   ⟨0xC1#8, 6, false, .byte .cmpIzx⟩,
   ⟨0xC5#8, 3, false, .byte .cmpZp⟩,
   ⟨0xC9#8, 2, false, .byte .cmpImm⟩,
   ⟨0xCD#8, 4, false, .word .cmpAbs⟩] ++
  [⟨0xD1#8, 5, true, .byte .cmpIzy⟩,
   ⟨0xD5#8, 4, false, .byte .cmpZpx⟩,
   ⟨0xD9#8, 4, true, .word .cmpAbsy⟩,
   ⟨0xDD#8, 4, true, .word .cmpAbsx⟩,
   ⟨0xE0#8, 2, false, .byte .cpxImm⟩,
   ⟨0xE4#8, 3, false, .byte .cpxZp⟩,
   ⟨0xEC#8, 4, false, .word .cpxAbs⟩,
   ⟨0xC0#8, 2, false, .byte .cpyImm⟩,
   ⟨0xC4#8, 3, false, .byte .cpyZp⟩,
   ⟨0xCC#8, 4, false, .word .cpyAbs⟩,
   ⟨0xE6#8, 5, false, .byte .incZp⟩,
   ⟨0xEE#8, 6, false, .word .incAbs⟩,
   ⟨0xF6#8, 6, false, .byte .incZpx⟩,
   ⟨0xFE#8, 7, false, .word .incAbsx⟩,
   ⟨0xC6#8, 5, false, .byte .decZp⟩,
   ⟨0xCE#8, 6, false, .word .decAbs⟩,
   ⟨0xD6#8, 6, false, .byte .decZpx⟩,
   ⟨0xDE#8, 7, false, .word .decAbsx⟩,
   ⟨0xE8#8, 2, false, .single .inx⟩,
   ⟨0xC8#8, 2, false, .single .iny⟩] ++
  [⟨0xCA#8, 2, false, .single .dex⟩,
   ⟨0x88#8, 2, false, .single .dey⟩]

/-- The shift rows (46_shift.md). -/
def shiftRows : List Descriptor :=
  [⟨0x06#8, 5, false, .byte .aslZp⟩,
   ⟨0x0A#8, 2, false, .single .aslA⟩,
   ⟨0x0E#8, 6, false, .word .aslAbs⟩,
   ⟨0x16#8, 6, false, .byte .aslZpx⟩,
   ⟨0x1E#8, 7, false, .word .aslAbsx⟩,
   ⟨0x46#8, 5, false, .byte .lsrZp⟩,
   ⟨0x4A#8, 2, false, .single .lsrA⟩,
   ⟨0x4E#8, 6, false, .word .lsrAbs⟩,
   ⟨0x56#8, 6, false, .byte .lsrZpx⟩,
   ⟨0x5E#8, 7, false, .word .lsrAbsx⟩,
   ⟨0x26#8, 5, false, .byte .rolZp⟩,
   ⟨0x2A#8, 2, false, .single .rolA⟩,
   ⟨0x2E#8, 6, false, .word .rolAbs⟩,
   ⟨0x36#8, 6, false, .byte .rolZpx⟩,
   ⟨0x3E#8, 7, false, .word .rolAbsx⟩,
   ⟨0x66#8, 5, false, .byte .rorZp⟩,
   ⟨0x6A#8, 2, false, .single .rorA⟩,
   ⟨0x6E#8, 6, false, .word .rorAbs⟩,
   ⟨0x76#8, 6, false, .byte .rorZpx⟩,
   ⟨0x7E#8, 7, false, .word .rorAbsx⟩]

/-- The flagNop rows (47_optional_flag_nop.md). -/
def flagNopRows : List Descriptor :=
  [⟨0x18#8, 2, false, .single .clc⟩,
   ⟨0x38#8, 2, false, .single .sec⟩,
   ⟨0xB8#8, 2, false, .single .clv⟩,
   ⟨0xEA#8, 2, false, .single .nop⟩]

/-- The opcode table with the four optional rows in it (R63); every opcode not in it is absent (R66). -/
def opcodeTable : List Descriptor :=
  loadRows ++ storeRows ++ transferRows ++ stackRows ++ logicalRows ++ arithmeticRows ++ shiftRows ++ flagNopRows

/-- The row of an opcode, if present. `opt` is OPT_FLAG_NOP: when it is false the four optional rows are
absent (R63, R170). All eight bits are compared. -/
def lookup (opt : Bool) (op : Byte) : Option Descriptor :=
  match opcodeTable.find? (fun d => d.opcode == op) with
  | some d => if d.mnemonic.optional && !opt then none else some d
  | none => none

/-- The form of the row that has a behaviour; each behaviour has at most one row (`Behavior.form_of_mem` in
Laws/Decode.lean). -/
def Behavior.form (b : Behavior) : Option Form :=
  match opcodeTable.find? (fun d => d.behavior == b) with
  | some d => some d.form
  | none => none

/-- The entry of an opcode in the default CYCLES (R14, R94); no cycles for an opcode that has no row. -/
def defaultCycles (op : Byte) : CycleEntry :=
  match lookup true op with
  | some d => ⟨d.base, d.penalty⟩
  | none => ⟨0, false⟩

/-- Decoding from any source of bytes: `get k` is the byte `k` places after the opcode. The opcode is
looked up before any operand byte is asked for (R60, R86, R93, R185). `absent` names the rejection of an opcode with no row. -/
def decodeFrom {ε : Type} (opt : Bool) (absent : Byte → ε) (get : Nat → Except ε Byte) : Except ε Instr :=
  match get 0 with
  | .error e => .error e
  | .ok op =>
    match lookup opt op with
    | none => .error (absent op)
    | some d => d.form.read get

/-- Why a list of bytes is not an instruction. -/
inductive DecodeError where
  /-- The opcode has no row in the table (R66). -/
  | absent (op : Byte)
  /-- The list ends before the instruction does. -/
  | truncated
  deriving DecidableEq, Repr

/-- The byte `k` of a list. -/
def byteAt (bs : List Byte) (k : Nat) : Except DecodeError Byte :=
  match bs[k]? with
  | some b => .ok b
  | none => .error .truncated

/-- Decode the first instruction of a list of bytes, and give the bytes after it. -/
def decode (opt : Bool) (bs : List Byte) : Except DecodeError (Instr × List Byte) :=
  match decodeFrom opt .absent (byteAt bs) with
  | .error e => .error e
  | .ok i => .ok (i, bs.drop i.length)

/-- The opcode byte of an instruction (R65). -/
def Instr.opcode : Instr → Byte
  | .ldaIzx _ => 0xA1#8
  | .ldaZp _ => 0xA5#8
  | .ldaImm _ => 0xA9#8
  | .ldaAbs _ => 0xAD#8
  | .ldaIzy _ => 0xB1#8
  | .ldaZpx _ => 0xB5#8
  | .ldaAbsy _ => 0xB9#8
  | .ldaAbsx _ => 0xBD#8
  | .ldxImm _ => 0xA2#8
  | .ldxZp _ => 0xA6#8
  | .ldxAbs _ => 0xAE#8
  | .ldxZpy _ => 0xB6#8
  | .ldxAbsy _ => 0xBE#8
  | .ldyImm _ => 0xA0#8
  | .ldyZp _ => 0xA4#8
  | .ldyAbs _ => 0xAC#8
  | .ldyZpx _ => 0xB4#8
  | .ldyAbsx _ => 0xBC#8
  | .staIzx _ => 0x81#8
  | .staZp _ => 0x85#8
  | .staAbs _ => 0x8D#8
  | .staIzy _ => 0x91#8
  | .staZpx _ => 0x95#8
  | .staAbsy _ => 0x99#8
  | .staAbsx _ => 0x9D#8
  | .stxZp _ => 0x86#8
  | .stxAbs _ => 0x8E#8
  | .stxZpy _ => 0x96#8
  | .styZp _ => 0x84#8
  | .styAbs _ => 0x8C#8
  | .styZpx _ => 0x94#8
  | .tax => 0xAA#8
  | .tay => 0xA8#8
  | .txa => 0x8A#8
  | .tya => 0x98#8
  | .tsx => 0xBA#8
  | .txs => 0x9A#8
  | .pha => 0x48#8
  | .php => 0x08#8
  | .pla => 0x68#8
  | .plp => 0x28#8
  | .andIzx _ => 0x21#8
  | .andZp _ => 0x25#8
  | .andImm _ => 0x29#8
  | .andAbs _ => 0x2D#8
  | .andIzy _ => 0x31#8
  | .andZpx _ => 0x35#8
  | .andAbsy _ => 0x39#8
  | .andAbsx _ => 0x3D#8
  | .eorIzx _ => 0x41#8
  | .eorZp _ => 0x45#8
  | .eorImm _ => 0x49#8
  | .eorAbs _ => 0x4D#8
  | .eorIzy _ => 0x51#8
  | .eorZpx _ => 0x55#8
  | .eorAbsy _ => 0x59#8
  | .eorAbsx _ => 0x5D#8
  | .oraIzx _ => 0x01#8
  | .oraZp _ => 0x05#8
  | .oraImm _ => 0x09#8
  | .oraAbs _ => 0x0D#8
  | .oraIzy _ => 0x11#8
  | .oraZpx _ => 0x15#8
  | .oraAbsy _ => 0x19#8
  | .oraAbsx _ => 0x1D#8
  | .bitZp _ => 0x24#8
  | .bitAbs _ => 0x2C#8
  | .adcIzx _ => 0x61#8
  | .adcZp _ => 0x65#8
  | .adcImm _ => 0x69#8
  | .adcAbs _ => 0x6D#8
  | .adcIzy _ => 0x71#8
  | .adcZpx _ => 0x75#8
  | .adcAbsy _ => 0x79#8
  | .adcAbsx _ => 0x7D#8
  | .sbcIzx _ => 0xE1#8
  | .sbcZp _ => 0xE5#8
  | .sbcImm _ => 0xE9#8
  | .sbcAbs _ => 0xED#8
  | .sbcIzy _ => 0xF1#8
  | .sbcZpx _ => 0xF5#8
  | .sbcAbsy _ => 0xF9#8
  | .sbcAbsx _ => 0xFD#8
  | .cmpIzx _ => 0xC1#8
  | .cmpZp _ => 0xC5#8
  | .cmpImm _ => 0xC9#8
  | .cmpAbs _ => 0xCD#8
  | .cmpIzy _ => 0xD1#8
  | .cmpZpx _ => 0xD5#8
  | .cmpAbsy _ => 0xD9#8
  | .cmpAbsx _ => 0xDD#8
  | .cpxImm _ => 0xE0#8
  | .cpxZp _ => 0xE4#8
  | .cpxAbs _ => 0xEC#8
  | .cpyImm _ => 0xC0#8
  | .cpyZp _ => 0xC4#8
  | .cpyAbs _ => 0xCC#8
  | .incZp _ => 0xE6#8
  | .incAbs _ => 0xEE#8
  | .incZpx _ => 0xF6#8
  | .incAbsx _ => 0xFE#8
  | .decZp _ => 0xC6#8
  | .decAbs _ => 0xCE#8
  | .decZpx _ => 0xD6#8
  | .decAbsx _ => 0xDE#8
  | .inx => 0xE8#8
  | .iny => 0xC8#8
  | .dex => 0xCA#8
  | .dey => 0x88#8
  | .aslZp _ => 0x06#8
  | .aslA => 0x0A#8
  | .aslAbs _ => 0x0E#8
  | .aslZpx _ => 0x16#8
  | .aslAbsx _ => 0x1E#8
  | .lsrZp _ => 0x46#8
  | .lsrA => 0x4A#8
  | .lsrAbs _ => 0x4E#8
  | .lsrZpx _ => 0x56#8
  | .lsrAbsx _ => 0x5E#8
  | .rolZp _ => 0x26#8
  | .rolA => 0x2A#8
  | .rolAbs _ => 0x2E#8
  | .rolZpx _ => 0x36#8
  | .rolAbsx _ => 0x3E#8
  | .rorZp _ => 0x66#8
  | .rorA => 0x6A#8
  | .rorAbs _ => 0x6E#8
  | .rorZpx _ => 0x76#8
  | .rorAbsx _ => 0x7E#8
  | .clc => 0x18#8
  | .sec => 0x38#8
  | .clv => 0xB8#8
  | .nop => 0xEA#8

/-- The operand bytes of an instruction, in memory order: low byte first (R61, R62). -/
def Operand.bytes : Operand → List Byte
  | .imm v => [v]
  | .zp z | .zpx z | .zpy z | .izx z | .izy z => [z]
  | .abs w | .absx w | .absy w => [loByte w, hiByte w]

/-- The bytes of an instruction, lowest address first (R60, R61). -/
def encode (i : Instr) : List Byte :=
  i.opcode ::
    match i.operand with
    | some o => o.bytes
    | none => []

/-- The instruction the decoder reads from a word numbered as spec/opcode_table.json numbers it: the
opcode in bits 7 to 0, the operand bytes above it, every bit from `nbits` on zero. The option
OPT_FLAG_NOP is on, so that all 133 rows are read (log 16). -/
def decodeTableWord (nbits w : Nat) : Option Instr :=
  let v := w % 2 ^ nbits
  match decode true [BitVec.ofNat 8 v, BitVec.ofNat 8 (v / 256), BitVec.ofNat 8 (v / 65536)] with
  | .ok (i, _) => some i
  | .error _ => none

/-- The mnemonic as assembler text (R70). -/
def Mnemonic.text : Mnemonic → String
  | .lda => "LDA"
  | .ldx => "LDX"
  | .ldy => "LDY"
  | .sta => "STA"
  | .stx => "STX"
  | .sty => "STY"
  | .tax => "TAX"
  | .tay => "TAY"
  | .txa => "TXA"
  | .tya => "TYA"
  | .tsx => "TSX"
  | .txs => "TXS"
  | .pha => "PHA"
  | .php => "PHP"
  | .pla => "PLA"
  | .plp => "PLP"
  | .and => "AND"
  | .eor => "EOR"
  | .ora => "ORA"
  | .bit => "BIT"
  | .adc => "ADC"
  | .sbc => "SBC"
  | .cmp => "CMP"
  | .cpx => "CPX"
  | .cpy => "CPY"
  | .inc => "INC"
  | .dec => "DEC"
  | .inx => "INX"
  | .iny => "INY"
  | .dex => "DEX"
  | .dey => "DEY"
  | .asl => "ASL"
  | .lsr => "LSR"
  | .rol => "ROL"
  | .ror => "ROR"
  | .clc => "CLC"
  | .sec => "SEC"
  | .clv => "CLV"
  | .nop => "NOP"

/-- The `assemblerFormat` of a descriptor: standard 6502 syntax (R70, D29). -/
def Descriptor.assemblerFormat (d : Descriptor) : String :=
  d.mnemonic.text ++
    match d.mode with
    | .implied => ""
    | .accumulator => " A"
    | .immediate => " #$nn"
    | .zeroPage => " $nn"
    | .zeroPageX => " $nn,X"
    | .zeroPageY => " $nn,Y"
    | .absolute => " $hhll"
    | .absoluteX => " $hhll,X"
    | .absoluteY => " $hhll,Y"
    | .indirectX => " ($nn,X)"
    | .indirectY => " ($nn),Y"

end Sys2Proof
end

