-- ==== Sys2Proof/Machine/State.lean ====
section
/-! DEFINITION. The state of the core as plain data (10_state.md, 20_memory.md R41), the reasons a step can
stop, and the launch state. -/

namespace Sys2Proof.Machine

/-- The registers a caller can name (R36). -/
inductive Reg where
  | a | x | y | sp | pc
  deriving DecidableEq, Repr

/-- The seven flags a caller can name (R22, R36). -/
inductive Flag where
  | c | z | i | d | b | v | n
  deriving DecidableEq, Repr

/-- The source's three exceptions (60_exceptions.md R180). An exception is returned to the caller and ends
the run; nothing is saved and no vector is taken (R186). -/
inductive Fault where
  /-- Raised by `execute` on an opcode with no row in the table, before any state changes (R181). Safe: the
  spec's own stop; the step never skips the opcode (D25, log 17). -/
  | unimplementedOpcode (op : Byte)
  /-- Raised by the first access above 0x1FFF of a read, a write or an `execute` (R43, R45, R182). Safe:
  the spec's own stop; no register, flag or cell has changed (R184). -/
  | outOfRange (addr : Nat)
  /-- Raised only by a host setter given a value wider than its register, which stays as it was (R183,
  D19). No step raises it. Safe. -/
  | invalidRegisterValue (r : Reg) (value : Nat)
  deriving DecidableEq, Repr

/-- The code the spec gives each exception (R180, D18). -/
def Fault.code : Fault → Nat
  | .unimplementedOpcode _ => 1
  | .outOfRange _ => 2
  | .invalidRegisterValue _ _ => 3

/-- Reasons a step has no meaning. Every instruction of the table has one, so no step gives any. -/
inductive Refusal where
  /-- Raised by an arm of `exec` whose instruction has no meaning yet; no arm is left so. Safe. -/
  | notModelled (mnemonic : String)
  deriving DecidableEq, Repr

/-- The 2048 cells (R41), as the list of (cell index, byte) pairs of the cells that do not hold 0x00; an
unlisted cell reads as 0x00, the value `clear()` gives every cell (R46, log 2). -/
abbrev Memory := List Host.Cell

/-- The canonical form: indexes strictly rising and below 2048, no entry 0x00. Equal memories in it are
equal lists. -/
abbrev Memory.wf (m : Memory) : Prop :=
  m.Pairwise (fun p q => p.1 < q.1) ∧ ∀ p ∈ m, p.1 < Config.ramSize ∧ p.2 ≠ 0

/-- The state of the core: the RegisterFile (R20), the Memory (R41), the parameters it was built with (R11
to R14, log 3) and the last cycle count it reported (R94, log 5). -/
structure State where
  /-- Accumulator (R21). -/
  a : Byte
  /-- Index register X (R21). -/
  x : Byte
  /-- Index register Y (R21). -/
  y : Byte
  /-- Stack pointer, an offset from 0x0100 (R28). -/
  sp : Byte
  /-- Program counter: between steps, the address of the next opcode (R29). -/
  pc : Word
  /-- Carry (R23). -/
  c : Bool
  /-- Zero (R24). -/
  z : Bool
  /-- InterruptDisable: stored only (R27). -/
  i : Bool
  /-- Decimal: stored only (R27). -/
  d : Bool
  /-- Break: stored only (R27). -/
  b : Bool
  /-- Overflow (R26). -/
  v : Bool
  /-- Negative (R25). -/
  n : Bool
  /-- The 2048 cells (R41). -/
  mem : Memory
  /-- The parameters, which no step changes (R11 to R14). -/
  params : Params
  /-- The model's own: the count the last completed `execute` returned (R94, R99). No rule reads it. -/
  lastCycles : Nat
  deriving DecidableEq, Repr

/-- RegInit: the launch values of the registers and flags (R15, R35, D17). The defaults are those of the
"Default start state" of 95_test_vectors.md (DESIGN CHOICE, log 1). -/
structure RegInit where
  a : Byte := 0x00
  x : Byte := 0x00
  y : Byte := 0x00
  sp : Byte := 0xFF
  pc : Word := 0x0200
  c : Bool := false
  z : Bool := false
  i : Bool := false
  d : Bool := false
  b : Bool := false
  v : Bool := false
  n : Bool := false
  deriving DecidableEq, Repr

/-- The launch state of R35 and R200: registers and flags RegInit, memory MemInit. -/
def State.launch (r : RegInit) (memInit : Memory) (p : Params) : State :=
  { a := r.a, x := r.x, y := r.y, sp := r.sp, pc := r.pc, c := r.c, z := r.z, i := r.i, d := r.d, b := r.b,
    v := r.v, n := r.n, mem := memInit, params := p, lastCycles := 0 }

/-- The machine at its first step. The spec has no reset and gives no value (R35, R200); the values are
those of log 1 and log 2, with the parameters at the spec's defaults. -/
def State.reset : State := State.launch {} [] {}

end Sys2Proof.Machine
end

