-- ==== Sys2Proof/Machine/Ops.lean ====
section
/-! DEFINITION. The named operations over memory and registers: the Memory component (20_memory.md), the
register setters (R36), the stack primitives (43_stack.md R120, R121), raising an exception (R186) and the
end of an instruction (R93, R94). -/

namespace Sys2Proof.Machine

/-- What a meaning answers. -/
abbrev Result := Host.Outcome State Fault Refusal

/-- Taking an exception. The core has no trap entry: an exception saves no state, pushes nothing, changes
no mode, mask or flag, and jumps to no vector; it is returned to the caller, and the run ends with it (R186,
R204). There is no return from one (R187). -/
def raise (e : Fault) : Result := .fault e

/-! ## Memory -/

/-- `physical = address & 0x07FF` (R42). -/
def cellIndex (addr : Nat) : Nat := addr &&& Config.mirrorMask

/-- The byte a cell holds; 0x00 where the list has no entry (log 2). -/
def Memory.cell (m : Memory) (k : Nat) : Byte :=
  match m with
  | [] => 0
  | p :: rest => if p.1 = k then p.2 else Memory.cell rest k

/-- The memory with no entry for a cell. -/
def Memory.erase (m : Memory) (k : Nat) : Memory := m.filter (fun p => p.1 ≠ k)

/-- The memory with an entry put in before the first greater index. -/
def Memory.insert (m : Memory) (k : Nat) (v : Byte) : Memory :=
  match m with
  | [] => [(k, v)]
  | p :: rest => if k < p.1 then (k, v) :: p :: rest else p :: Memory.insert rest k v

/-- `cell[k] <- v`, keeping the canonical form. -/
def Memory.store (m : Memory) (k : Nat) (v : Byte) : Memory :=
  if v = 0 then m.erase k else (m.erase k).insert k v

/-- `Memory.read(address)` (R43). The address is any number: those above 0xFFFF, which only a caller can
give, raise as well. -/
def State.read (s : State) (addr : Nat) : Except Fault Byte :=
  if addr ≤ Config.windowTop then .ok (s.mem.cell (cellIndex addr)) else .error (.outOfRange addr)

/-- `Memory.write(address, value)` (R45): out of range it raises and no cell changes (C5, log 10). -/
def State.write (s : State) (addr : Nat) (v : Byte) : Except Fault State :=
  if addr ≤ Config.windowTop then .ok { s with mem := s.mem.store (cellIndex addr) v }
  else .error (.outOfRange addr)

/-- `Memory.clear()` (R46): every cell 0x00, no register changed. -/
def State.clear (s : State) : State := { s with mem := [] }

/-! ## Registers -/

def State.setA (s : State) (v : Byte) : State := { s with a := v }
def State.setX (s : State) (v : Byte) : State := { s with x := v }
def State.setY (s : State) (v : Byte) : State := { s with y := v }
def State.setSp (s : State) (v : Byte) : State := { s with sp := v }
def State.setPc (s : State) (w : Word) : State := { s with pc := w }
def State.setC (s : State) (f : Bool) : State := { s with c := f }
def State.setZ (s : State) (f : Bool) : State := { s with z := f }
def State.setI (s : State) (f : Bool) : State := { s with i := f }
def State.setD (s : State) (f : Bool) : State := { s with d := f }
def State.setB (s : State) (f : Bool) : State := { s with b := f }
def State.setV (s : State) (f : Bool) : State := { s with v := f }
def State.setN (s : State) (f : Bool) : State := { s with n := f }

/-- `advancePC()` (R81): the old PC, and the state with PC one further, modulo 2^16. -/
def State.advancePC (s : State) : Word × State := (s.pc, s.setPc (s.pc + 1))

/-- `incrementSP()`: modulo 256 (R28, R36). -/
def State.incrementSP (s : State) : State := s.setSp (s.sp + 1)

/-- `decrementSP()`: modulo 256 (R28, R36). -/
def State.decrementSP (s : State) : State := s.setSp (s.sp - 1)

/-! ## The stack -/

/-- The address of the stack byte an SP names: `0x0100 + SP`, in 0x0100 to 0x01FF (R28). -/
def stackAddr (sp : Byte) : Nat := Config.stackBase + sp.toNat

/-- `Push(v)` (R120): the byte at `0x0100 + SP`, then SP down by one. The address is always backed, so a
push never faults (`State.write_stack` in Laws/Memory.lean). -/
def State.push (s : State) (v : Byte) : State :=
  { s with mem := s.mem.store (cellIndex (stackAddr s.sp)) v, sp := s.sp - 1 }

/-- `Pull()` (R121): SP up by one, then the byte at `0x0100 + SP` (C1, log 9). It never faults. -/
def State.pull (s : State) : Byte × State :=
  (s.incrementSP.mem.cell (cellIndex (stackAddr s.incrementSP.sp)), s.incrementSP)

/-! ## The end of an instruction -/

/-- `CYCLES[op]`: the parameter's entry, else the spec's default (R14, D16, log 4). -/
def cycleEntry (p : Params) (op : Byte) : CycleEntry :=
  match p.cycles.find? (fun e => e.1 == op) with
  | some e => e.2
  | none => defaultCycles op

/-- `cycles(op, pageCrossed)` (R94). -/
def cyclesOf (p : Params) (op : Byte) (crossed : Bool) : Nat :=
  (cycleEntry p op).base + if (cycleEntry p op).penalty && crossed then 1 else 0

/-- The instruction is done: PC is past its bytes, modulo 2^16 (R29, R93), and `execute` returns its cycle
count. -/
def State.retire (s : State) (op : Byte) (length : Nat) (crossed : Bool) : State :=
  { s with pc := s.pc + BitVec.ofNat 16 length, lastCycles := cyclesOf s.params op crossed }

end Sys2Proof.Machine
end

