-- ==== Sys2Proof/Machine/Operands.lean ====
section
/-! DEFINITION. The addressing-mode compute engine (40_addressing_dispatch.md R80 to R92), and the four
shapes of an instruction that use it (R93 to R97): read class, store, read-modify-write, no operand. -/

namespace Sys2Proof.Machine

/-- A byte of the zero page. Its address is at most 0x00FF, so the read never faults (R89, R90, R182). -/
def State.zeroPage (s : State) (p : Byte) : Byte := s.mem.cell (cellIndex p.toNat)

/-- The 16-bit pointer at a zero-page address; its second byte wraps within the zero page (R49, R89, R90). -/
def State.pointer (s : State) (p : Byte) : Word := joinBytes (s.zeroPage (p + 1)) (s.zeroPage p)

/-- The unindexed address of the three modes that can cross a page (R87, R88, R90), and the effective
address of the others. -/
def operandBase (o : Operand) (s : State) : Word :=
  match o with
  | .imm _ => s.pc + 1
  | .zp z => z.setWidth 16
  | .zpx z => (z + s.x).setWidth 16
  | .zpy z => (z + s.y).setWidth 16
  | .abs w => w
  | .absx w => w
  | .absy w => w
  | .izx z => s.pointer (z + s.x)
  | .izy z => s.pointer z

/-- The effective address EA (R82 to R90): 16-bit sums modulo 2^16, zero-page sums modulo 2^8 (R80). For
Immediate it is the address of byte 1 of the instruction. -/
def effectiveAddress (o : Operand) (s : State) : Word :=
  match o with
  | .absx w => w + s.x.setWidth 16
  | .absy w => w + s.y.setWidth 16
  | .izy z => s.pointer z + s.y.setWidth 16
  | o => operandBase o s

/-- `crossed(base, EA)`: the high bytes differ (R92). -/
def crossed (base ea : Word) : Bool := hiByte base != hiByte ea

/-- `pageCrossed` after the resolver (R33, R92): only Absolute,X, Absolute,Y and (Indirect),Y assign it. -/
def pageCrossed (o : Operand) (s : State) : Bool :=
  match o with
  | .absx w => crossed w (effectiveAddress (.absx w) s)
  | .absy w => crossed w (effectiveAddress (.absy w) s)
  | .izy z => crossed (s.pointer z) (effectiveAddress (.izy z) s)
  | _ => false

/-- `M <- MemRead(EA, 1)` (R95). An Immediate operand is the instruction's own byte 1, which the fetch has
already read (log 12). -/
def loadOperand (o : Operand) (s : State) : Except Fault Byte :=
  match o with
  | .imm v => .ok v
  | o => s.read (effectiveAddress o s).toNat

/-- A read-class instruction (R95): one read of the operand `M`, then `f state M`; the page-crossing test
uses the state before it. A faulting read leaves nothing done (R184). -/
def execRead (op : Byte) (o : Operand) (f : State → Byte → State) (s : State) : Result :=
  match loadOperand o s with
  | .error e => raise e
  | .ok m => .next ((f s m).retire op o.mode.length (pageCrossed o s))

/-- A store (R97): one write of `v` at EA, no operand read, no flag written. -/
def execStore (op : Byte) (o : Operand) (v : Byte) (s : State) : Result :=
  match s.write (effectiveAddress o s).toNat v with
  | .error e => raise e
  | .ok t => .next (t.retire op o.mode.length (pageCrossed o s))

/-- A read-modify-write instruction on memory (R96): one read, one write of `result state M` at the same EA,
then `flags state M`. When the read faults nothing is written. -/
def execModify (op : Byte) (o : Operand) (result : State → Byte → Byte) (flags : State → Byte → State)
    (s : State) : Result :=
  match loadOperand o s with
  | .error e => raise e
  | .ok m =>
    match s.write (effectiveAddress o s).toNat (result s m) with
    | .error e => raise e
    | .ok t => .next ((flags t m).retire op o.mode.length (pageCrossed o s))

/-- An instruction of one byte (R91): it reaches `after` and retires. -/
def execSingle (op : Byte) (after : State) : Result := .next (after.retire op 1 false)

/-- An instruction of one byte that is present only with OPT_FLAG_NOP; without the option its opcode is
absent and raises UnimplementedOpcode (R170, log 15). -/
def execOptional (op : Byte) (after : State) (s : State) : Result :=
  if s.params.optFlagNop then execSingle op after else raise (.unimplementedOpcode op)

end Sys2Proof.Machine
end

