-- ==== Sys2Proof/Machine/Flags.lean ====
section
/-! DEFINITION. Every flag computation of the spec: SetZN (R98), the status byte (R30, R31), the overflow
predicate (R140), add, subtract and compare (R141 to R143), BIT (R133), shifts and rotates (R160 to R163). -/

namespace Sys2Proof.Machine

/-- `SetZN(v)` (R98): `Z <- (v == 0x00); N <- v[7]`. -/
def State.setZN (s : State) (v : Byte) : State := { s with z := v == 0, n := v.getLsbD 7 }

/-! ## The processor status byte -/

/-- `packStatus()` (R30): N V 1 B D I Z C from bit 7 down to bit 0 (D4, log 8). -/
def State.packStatus (s : State) : Byte :=
  BitVec.ofNat 8 (s.n.toNat * 128 + s.v.toNat * 64 + 32 + s.b.toNat * 16 + s.d.toNat * 8 + s.i.toNat * 4
    + s.z.toNat * 2 + s.c.toNat)

/-- `unpackStatus(p)` (R31): all seven flags; bit 5 is ignored. -/
def State.unpackStatus (s : State) (p : Byte) : State :=
  { s with n := p.getLsbD 7, v := p.getLsbD 6, b := p.getLsbD 4, d := p.getLsbD 3, i := p.getLsbD 2,
           z := p.getLsbD 1, c := p.getLsbD 0 }

/-! ## Add, subtract, compare -/

/-- `Vadd(a, b, r)` (R140): the operands share a sign and the result's sign differs. -/
def vAdd (a b r : Byte) : Bool := ((~~~(a ^^^ b)) &&& (a ^^^ r) &&& 0x80#8) != 0

/-- ADC's `sum`, an integer in 0 to 0x1FF (R141). -/
def adcSum (a m : Byte) (c : Bool) : Nat := a.toNat + m.toNat + c.toNat

/-- ADC's `r`: `sum mod 2^8`. -/
def adcResult (a m : Byte) (c : Bool) : Byte := BitVec.ofNat 8 (adcSum a m c)

/-- ADC's flags, from the old A (R141). D plays no part (R153). -/
def State.adcFlags (s : State) (m : Byte) : State :=
  let r := adcResult s.a m s.c
  { s with c := decide (adcSum s.a m s.c > 0xFF), z := r == 0, v := vAdd s.a m r, n := r.getLsbD 7 }

/-- SBC's `diff`, an integer in -256 to 255; C = 1 means no borrow in (R142). -/
def sbcDiff (a m : Byte) (c : Bool) : Int := (a.toNat : Int) - m.toNat - (1 - c.toNat)

/-- SBC's `r`: `diff mod 2^8`. -/
def sbcResult (a m : Byte) (c : Bool) : Byte := BitVec.ofInt 8 (sbcDiff a m c)

/-- SBC's flags, from the old A (R142): `C <- (diff >= 0)`, V is Vadd on `~M` (D28, log 21). -/
def State.sbcFlags (s : State) (m : Byte) : State :=
  let r := sbcResult s.a m s.c
  { s with c := decide (sbcDiff s.a m s.c ≥ 0), z := r == 0, v := vAdd s.a (~~~m) r, n := r.getLsbD 7 }

/-- `Compare(reg, M)` (R143): N, C and Z; no register, not V, and C is not read. -/
def State.compareFlags (s : State) (reg m : Byte) : State :=
  { s with n := (reg - m).getLsbD 7, c := decide (reg.toNat ≥ m.toNat), z := reg - m == 0 }

/-- BIT's flags (R133): N and V from M alone, Z from `A & M`. -/
def State.bitFlags (s : State) (m : Byte) : State :=
  { s with n := m.getLsbD 7, v := m.getLsbD 6, z := (s.a &&& m) == 0 }

/-! ## Shifts and rotates -/

/-- `bool(c)` as a byte. -/
def carryIn (c : Bool) : Byte := if c then 1 else 0

/-- ASL (R160): `(operand << 1) mod 2^8`; the carry plays no part. -/
def aslResult (m : Byte) (_c : Bool) : Byte := m <<< 1

/-- LSR (R161): `operand >> 1`; the carry plays no part. -/
def lsrResult (m : Byte) (_c : Bool) : Byte := m >>> 1

/-- ROL (R162): `((operand << 1) | cin) mod 2^8`. -/
def rolResult (m : Byte) (c : Bool) : Byte := (m <<< 1) ||| carryIn c

/-- ROR (R163): `(operand >> 1) | (cin << 7)`. -/
def rorResult (m : Byte) (c : Bool) : Byte := (m >>> 1) ||| (carryIn c <<< 7)

/-- ASL's flags (R160): `C <- operand[7]; SetZN(r)`. -/
def State.aslFlags (s : State) (m : Byte) : State :=
  let r := aslResult m s.c
  { s with c := m.getLsbD 7, z := r == 0, n := r.getLsbD 7 }

/-- LSR's flags (R161): `C <- operand[0]; SetZN(r)`. -/
def State.lsrFlags (s : State) (m : Byte) : State :=
  let r := lsrResult m s.c
  { s with c := m.getLsbD 0, z := r == 0, n := r.getLsbD 7 }

/-- ROL's flags (R162): `C <- operand[7]; SetZN(r)`, r with the old C in bit 0. -/
def State.rolFlags (s : State) (m : Byte) : State :=
  let r := rolResult m s.c
  { s with c := m.getLsbD 7, z := r == 0, n := r.getLsbD 7 }

/-- ROR's flags (R163): `C <- operand[0]; SetZN(r)`, r with the old C in bit 7. -/
def State.rorFlags (s : State) (m : Byte) : State :=
  let r := rorResult m s.c
  { s with c := m.getLsbD 0, z := r == 0, n := r.getLsbD 7 }

end Sys2Proof.Machine
end

