-- ==== Sys2Proof/Machine/Arithmetic.lean ====
section
/-! DEFINITION. Arithmetic, compare, increment and decrement (45_arithmetic.md), one definition per form. -/

namespace Sys2Proof.Machine

/-- R141 ADC: C, Z, V and N from the old A, then A. -/
def execAdc (op : Byte) (o : Operand) (s : State) : Result :=
  execRead op o (fun t m => (t.adcFlags m).setA (adcResult t.a m t.c)) s

/-- R141, 0x61 `ADC ($nn,X)`. -/
def execAdcIzx (z : Byte) (s : State) : Result := execAdc 0x61#8 (.izx z) s

/-- R141, 0x65 `ADC $nn`. -/
def execAdcZp (z : Byte) (s : State) : Result := execAdc 0x65#8 (.zp z) s

/-- R141, 0x69 `ADC #$nn`. -/
def execAdcImm (v : Byte) (s : State) : Result := execAdc 0x69#8 (.imm v) s

/-- R141, 0x6D `ADC $hhll`. -/
def execAdcAbs (w : Word) (s : State) : Result := execAdc 0x6D#8 (.abs w) s

/-- R141, 0x71 `ADC ($nn),Y`. -/
def execAdcIzy (z : Byte) (s : State) : Result := execAdc 0x71#8 (.izy z) s

/-- R141, 0x75 `ADC $nn,X`. -/
def execAdcZpx (z : Byte) (s : State) : Result := execAdc 0x75#8 (.zpx z) s

/-- R141, 0x79 `ADC $hhll,Y`. -/
def execAdcAbsy (w : Word) (s : State) : Result := execAdc 0x79#8 (.absy w) s

/-- R141, 0x7D `ADC $hhll,X`. -/
def execAdcAbsx (w : Word) (s : State) : Result := execAdc 0x7D#8 (.absx w) s

/-- R142 SBC: C, Z, V and N from the old A, then A. -/
def execSbc (op : Byte) (o : Operand) (s : State) : Result :=
  execRead op o (fun t m => (t.sbcFlags m).setA (sbcResult t.a m t.c)) s

/-- R142, 0xE1 `SBC ($nn,X)`. -/
def execSbcIzx (z : Byte) (s : State) : Result := execSbc 0xE1#8 (.izx z) s

/-- R142, 0xE5 `SBC $nn`. -/
def execSbcZp (z : Byte) (s : State) : Result := execSbc 0xE5#8 (.zp z) s

/-- R142, 0xE9 `SBC #$nn`. -/
def execSbcImm (v : Byte) (s : State) : Result := execSbc 0xE9#8 (.imm v) s

/-- R142, 0xED `SBC $hhll`. -/
def execSbcAbs (w : Word) (s : State) : Result := execSbc 0xED#8 (.abs w) s

/-- R142, 0xF1 `SBC ($nn),Y`. -/
def execSbcIzy (z : Byte) (s : State) : Result := execSbc 0xF1#8 (.izy z) s

/-- R142, 0xF5 `SBC $nn,X`. -/
def execSbcZpx (z : Byte) (s : State) : Result := execSbc 0xF5#8 (.zpx z) s

/-- R142, 0xF9 `SBC $hhll,Y`. -/
def execSbcAbsy (w : Word) (s : State) : Result := execSbc 0xF9#8 (.absy w) s

/-- R142, 0xFD `SBC $hhll,X`. -/
def execSbcAbsx (w : Word) (s : State) : Result := execSbc 0xFD#8 (.absx w) s

/-- R144 CMP: `Compare(A, M)`. -/
def execCmp (op : Byte) (o : Operand) (s : State) : Result :=
  execRead op o (fun t m => t.compareFlags t.a m) s

/-- R144, 0xC1 `CMP ($nn,X)`. -/
def execCmpIzx (z : Byte) (s : State) : Result := execCmp 0xC1#8 (.izx z) s

/-- R144, 0xC5 `CMP $nn`. -/
def execCmpZp (z : Byte) (s : State) : Result := execCmp 0xC5#8 (.zp z) s

/-- R144, 0xC9 `CMP #$nn`. -/
def execCmpImm (v : Byte) (s : State) : Result := execCmp 0xC9#8 (.imm v) s

/-- R144, 0xCD `CMP $hhll`. -/
def execCmpAbs (w : Word) (s : State) : Result := execCmp 0xCD#8 (.abs w) s

/-- R144, 0xD1 `CMP ($nn),Y`. -/
def execCmpIzy (z : Byte) (s : State) : Result := execCmp 0xD1#8 (.izy z) s

/-- R144, 0xD5 `CMP $nn,X`. -/
def execCmpZpx (z : Byte) (s : State) : Result := execCmp 0xD5#8 (.zpx z) s

/-- R144, 0xD9 `CMP $hhll,Y`. -/
def execCmpAbsy (w : Word) (s : State) : Result := execCmp 0xD9#8 (.absy w) s

/-- R144, 0xDD `CMP $hhll,X`. -/
def execCmpAbsx (w : Word) (s : State) : Result := execCmp 0xDD#8 (.absx w) s

/-- R145 CPX: `Compare(X, M)`. -/
def execCpx (op : Byte) (o : Operand) (s : State) : Result :=
  execRead op o (fun t m => t.compareFlags t.x m) s

/-- R145, 0xE0 `CPX #$nn`. -/
def execCpxImm (v : Byte) (s : State) : Result := execCpx 0xE0#8 (.imm v) s

/-- R145, 0xE4 `CPX $nn`. -/
def execCpxZp (z : Byte) (s : State) : Result := execCpx 0xE4#8 (.zp z) s

/-- R145, 0xEC `CPX $hhll`. -/
def execCpxAbs (w : Word) (s : State) : Result := execCpx 0xEC#8 (.abs w) s

/-- R146 CPY: `Compare(Y, M)`. -/
def execCpy (op : Byte) (o : Operand) (s : State) : Result :=
  execRead op o (fun t m => t.compareFlags t.y m) s

/-- R146, 0xC0 `CPY #$nn`. -/
def execCpyImm (v : Byte) (s : State) : Result := execCpy 0xC0#8 (.imm v) s

/-- R146, 0xC4 `CPY $nn`. -/
def execCpyZp (z : Byte) (s : State) : Result := execCpy 0xC4#8 (.zp z) s

/-- R146, 0xCC `CPY $hhll`. -/
def execCpyAbs (w : Word) (s : State) : Result := execCpy 0xCC#8 (.abs w) s

/-- R147 INC: `r <- (M + 1) mod 2^8; MemWrite(EA, 1, r); SetZN(r)`. -/
def execInc (op : Byte) (o : Operand) (s : State) : Result :=
  execModify op o (fun _ m => m + 1) (fun t m => t.setZN (m + 1)) s

/-- R147, 0xE6 `INC $nn`. -/
def execIncZp (z : Byte) (s : State) : Result := execInc 0xE6#8 (.zp z) s

/-- R147, 0xEE `INC $hhll`. -/
def execIncAbs (w : Word) (s : State) : Result := execInc 0xEE#8 (.abs w) s

/-- R147, 0xF6 `INC $nn,X`. -/
def execIncZpx (z : Byte) (s : State) : Result := execInc 0xF6#8 (.zpx z) s

/-- R147, 0xFE `INC $hhll,X`. -/
def execIncAbsx (w : Word) (s : State) : Result := execInc 0xFE#8 (.absx w) s

/-- R148 DEC: `r <- (M - 1) mod 2^8; MemWrite(EA, 1, r); SetZN(r)`. -/
def execDec (op : Byte) (o : Operand) (s : State) : Result :=
  execModify op o (fun _ m => m - 1) (fun t m => t.setZN (m - 1)) s

/-- R148, 0xC6 `DEC $nn`. -/
def execDecZp (z : Byte) (s : State) : Result := execDec 0xC6#8 (.zp z) s

/-- R148, 0xCE `DEC $hhll`. -/
def execDecAbs (w : Word) (s : State) : Result := execDec 0xCE#8 (.abs w) s

/-- R148, 0xD6 `DEC $nn,X`. -/
def execDecZpx (z : Byte) (s : State) : Result := execDec 0xD6#8 (.zpx z) s

/-- R148, 0xDE `DEC $hhll,X`. -/
def execDecAbsx (w : Word) (s : State) : Result := execDec 0xDE#8 (.absx w) s

/-- R149 INX, 0xE8: `X <- (X + 1) mod 2^8; SetZN(X)`. -/
def execInx (s : State) : Result :=
  execSingle 0xE8#8 ((s.setX (s.x + 1)).setZN (s.x + 1))

/-- R150 INY, 0xC8: `Y <- (Y + 1) mod 2^8; SetZN(Y)`. -/
def execIny (s : State) : Result :=
  execSingle 0xC8#8 ((s.setY (s.y + 1)).setZN (s.y + 1))

/-- R151 DEX, 0xCA: `X <- (X - 1) mod 2^8; SetZN(X)`. -/
def execDex (s : State) : Result :=
  execSingle 0xCA#8 ((s.setX (s.x - 1)).setZN (s.x - 1))

/-- R152 DEY, 0x88: `Y <- (Y - 1) mod 2^8; SetZN(Y)`. -/
def execDey (s : State) : Result :=
  execSingle 0x88#8 ((s.setY (s.y - 1)).setZN (s.y - 1))

end Sys2Proof.Machine
end

