-- ==== Sys2Proof/Machine/FlagNop.lean ====
section
/-! DEFINITION. The optional flag and no-operation instructions (47_optional_flag_nop.md): present only when
OPT_FLAG_NOP is true (R170). -/

namespace Sys2Proof.Machine

/-- R171 CLC, 0x18: `C <- 0`. -/
def execClc (s : State) : Result :=
  execOptional 0x18#8 (s.setC false) s

/-- R172 SEC, 0x38: `C <- 1`. -/
def execSec (s : State) : Result :=
  execOptional 0x38#8 (s.setC true) s

/-- R173 CLV, 0xB8: `V <- 0`. -/
def execClv (s : State) : Result :=
  execOptional 0xB8#8 (s.setV false) s

/-- R174 NOP, 0xEA: nothing beyond the opcode consumption. -/
def execNop (s : State) : Result :=
  execOptional 0xEA#8 s s

end Sys2Proof.Machine
end

