-- ==== Sys2Proof/Machine/Load.lean ====
section
/-! DEFINITION. The load instructions (41_load_store.md): LDA, LDX, LDY, one definition per form. -/

namespace Sys2Proof.Machine

/-- R100 LDA: `M <- MemRead(EA, 1); A <- M; SetZN(A)`. -/
def execLda (op : Byte) (o : Operand) (s : State) : Result :=
  execRead op o (fun t m => (t.setA m).setZN m) s

/-- R100, 0xA1 `LDA ($nn,X)`. -/
def execLdaIzx (z : Byte) (s : State) : Result := execLda 0xA1#8 (.izx z) s

/-- R100, 0xA5 `LDA $nn`. -/
def execLdaZp (z : Byte) (s : State) : Result := execLda 0xA5#8 (.zp z) s

/-- R100, 0xA9 `LDA #$nn`. -/
def execLdaImm (v : Byte) (s : State) : Result := execLda 0xA9#8 (.imm v) s

/-- R100, 0xAD `LDA $hhll`. -/
def execLdaAbs (w : Word) (s : State) : Result := execLda 0xAD#8 (.abs w) s

/-- R100, 0xB1 `LDA ($nn),Y`. -/
def execLdaIzy (z : Byte) (s : State) : Result := execLda 0xB1#8 (.izy z) s

/-- R100, 0xB5 `LDA $nn,X`. -/
def execLdaZpx (z : Byte) (s : State) : Result := execLda 0xB5#8 (.zpx z) s

/-- R100, 0xB9 `LDA $hhll,Y`. -/
def execLdaAbsy (w : Word) (s : State) : Result := execLda 0xB9#8 (.absy w) s

/-- R100, 0xBD `LDA $hhll,X`. -/
def execLdaAbsx (w : Word) (s : State) : Result := execLda 0xBD#8 (.absx w) s

/-- R101 LDX: `M <- MemRead(EA, 1); X <- M; SetZN(X)`. -/
def execLdx (op : Byte) (o : Operand) (s : State) : Result :=
  execRead op o (fun t m => (t.setX m).setZN m) s

/-- R101, 0xA2 `LDX #$nn`. -/
def execLdxImm (v : Byte) (s : State) : Result := execLdx 0xA2#8 (.imm v) s

/-- R101, 0xA6 `LDX $nn`. -/
def execLdxZp (z : Byte) (s : State) : Result := execLdx 0xA6#8 (.zp z) s

/-- R101, 0xAE `LDX $hhll`. -/
def execLdxAbs (w : Word) (s : State) : Result := execLdx 0xAE#8 (.abs w) s

/-- R101, 0xB6 `LDX $nn,Y`. -/
def execLdxZpy (z : Byte) (s : State) : Result := execLdx 0xB6#8 (.zpy z) s

/-- R101, 0xBE `LDX $hhll,Y`. -/
def execLdxAbsy (w : Word) (s : State) : Result := execLdx 0xBE#8 (.absy w) s

/-- R102 LDY: `M <- MemRead(EA, 1); Y <- M; SetZN(Y)`. -/
def execLdy (op : Byte) (o : Operand) (s : State) : Result :=
  execRead op o (fun t m => (t.setY m).setZN m) s

/-- R102, 0xA0 `LDY #$nn`. -/
def execLdyImm (v : Byte) (s : State) : Result := execLdy 0xA0#8 (.imm v) s

/-- R102, 0xA4 `LDY $nn`. -/
def execLdyZp (z : Byte) (s : State) : Result := execLdy 0xA4#8 (.zp z) s

/-- R102, 0xAC `LDY $hhll`. -/
def execLdyAbs (w : Word) (s : State) : Result := execLdy 0xAC#8 (.abs w) s

/-- R102, 0xB4 `LDY $nn,X`. -/
def execLdyZpx (z : Byte) (s : State) : Result := execLdy 0xB4#8 (.zpx z) s

/-- R102, 0xBC `LDY $hhll,X`. -/
def execLdyAbsx (w : Word) (s : State) : Result := execLdy 0xBC#8 (.absx w) s

end Sys2Proof.Machine
end

