-- ==== Sys2Proof/Machine/Logical.lean ====
section
/-! DEFINITION. The logical instructions (44_logical.md): AND, EOR, ORA, BIT, one definition per form. -/

namespace Sys2Proof.Machine

/-- R130 AND: `A <- A & M; SetZN(A)`. -/
def execAnd (op : Byte) (o : Operand) (s : State) : Result :=
  execRead op o (fun t m => (t.setA (t.a &&& m)).setZN (t.a &&& m)) s

/-- R130, 0x21 `AND ($nn,X)`. -/
def execAndIzx (z : Byte) (s : State) : Result := execAnd 0x21#8 (.izx z) s

/-- R130, 0x25 `AND $nn`. -/
def execAndZp (z : Byte) (s : State) : Result := execAnd 0x25#8 (.zp z) s

/-- R130, 0x29 `AND #$nn`. -/
def execAndImm (v : Byte) (s : State) : Result := execAnd 0x29#8 (.imm v) s

/-- R130, 0x2D `AND $hhll`. -/
def execAndAbs (w : Word) (s : State) : Result := execAnd 0x2D#8 (.abs w) s

/-- R130, 0x31 `AND ($nn),Y`. -/
def execAndIzy (z : Byte) (s : State) : Result := execAnd 0x31#8 (.izy z) s

/-- R130, 0x35 `AND $nn,X`. -/
def execAndZpx (z : Byte) (s : State) : Result := execAnd 0x35#8 (.zpx z) s

/-- R130, 0x39 `AND $hhll,Y`. -/
def execAndAbsy (w : Word) (s : State) : Result := execAnd 0x39#8 (.absy w) s

/-- R130, 0x3D `AND $hhll,X`. -/
def execAndAbsx (w : Word) (s : State) : Result := execAnd 0x3D#8 (.absx w) s

/-- R131 EOR: `A <- A ^ M; SetZN(A)`. -/
def execEor (op : Byte) (o : Operand) (s : State) : Result :=
  execRead op o (fun t m => (t.setA (t.a ^^^ m)).setZN (t.a ^^^ m)) s

/-- R131, 0x41 `EOR ($nn,X)`. -/
def execEorIzx (z : Byte) (s : State) : Result := execEor 0x41#8 (.izx z) s

/-- R131, 0x45 `EOR $nn`. -/
def execEorZp (z : Byte) (s : State) : Result := execEor 0x45#8 (.zp z) s

/-- R131, 0x49 `EOR #$nn`. -/
def execEorImm (v : Byte) (s : State) : Result := execEor 0x49#8 (.imm v) s

/-- R131, 0x4D `EOR $hhll`. -/
def execEorAbs (w : Word) (s : State) : Result := execEor 0x4D#8 (.abs w) s

/-- R131, 0x51 `EOR ($nn),Y`. -/
def execEorIzy (z : Byte) (s : State) : Result := execEor 0x51#8 (.izy z) s

/-- R131, 0x55 `EOR $nn,X`. -/
def execEorZpx (z : Byte) (s : State) : Result := execEor 0x55#8 (.zpx z) s

/-- R131, 0x59 `EOR $hhll,Y`. -/
def execEorAbsy (w : Word) (s : State) : Result := execEor 0x59#8 (.absy w) s

/-- R131, 0x5D `EOR $hhll,X`. -/
def execEorAbsx (w : Word) (s : State) : Result := execEor 0x5D#8 (.absx w) s

/-- R132 ORA: `A <- A | M; SetZN(A)`. -/
def execOra (op : Byte) (o : Operand) (s : State) : Result :=
  execRead op o (fun t m => (t.setA (t.a ||| m)).setZN (t.a ||| m)) s

/-- R132, 0x01 `ORA ($nn,X)`. -/
def execOraIzx (z : Byte) (s : State) : Result := execOra 0x01#8 (.izx z) s

/-- R132, 0x05 `ORA $nn`. -/
def execOraZp (z : Byte) (s : State) : Result := execOra 0x05#8 (.zp z) s

/-- R132, 0x09 `ORA #$nn`. -/
def execOraImm (v : Byte) (s : State) : Result := execOra 0x09#8 (.imm v) s

/-- R132, 0x0D `ORA $hhll`. -/
def execOraAbs (w : Word) (s : State) : Result := execOra 0x0D#8 (.abs w) s

/-- R132, 0x11 `ORA ($nn),Y`. -/
def execOraIzy (z : Byte) (s : State) : Result := execOra 0x11#8 (.izy z) s

/-- R132, 0x15 `ORA $nn,X`. -/
def execOraZpx (z : Byte) (s : State) : Result := execOra 0x15#8 (.zpx z) s

/-- R132, 0x19 `ORA $hhll,Y`. -/
def execOraAbsy (w : Word) (s : State) : Result := execOra 0x19#8 (.absy w) s

/-- R132, 0x1D `ORA $hhll,X`. -/
def execOraAbsx (w : Word) (s : State) : Result := execOra 0x1D#8 (.absx w) s

/-- R133 BIT: `N <- M[7]; V <- M[6]; Z <- ((A & M) == 0x00)`. -/
def execBit (op : Byte) (o : Operand) (s : State) : Result :=
  execRead op o (fun t m => t.bitFlags m) s

/-- R133, 0x24 `BIT $nn`. -/
def execBitZp (z : Byte) (s : State) : Result := execBit 0x24#8 (.zp z) s

/-- R133, 0x2C `BIT $hhll`. -/
def execBitAbs (w : Word) (s : State) : Result := execBit 0x2C#8 (.abs w) s

end Sys2Proof.Machine
end

