-- ==== Sys2Proof/Machine/Shift.lean ====
section
/-! DEFINITION. The shift and rotate instructions (46_shift.md), one definition per form. -/

namespace Sys2Proof.Machine

/-- R160 ASL on memory: the operand is the byte at EA and the result goes back to it (R96). -/
def execAsl (op : Byte) (o : Operand) (s : State) : Result :=
  execModify op o (fun t m => aslResult m t.c) (fun t m => t.aslFlags m) s

/-- R160, 0x06 `ASL $nn`. -/
def execAslZp (z : Byte) (s : State) : Result := execAsl 0x06#8 (.zp z) s

/-- R160, 0x0A `ASL A`: the operand is A and the result goes back to A (R91, R96). -/
def execAslA (s : State) : Result :=
  execSingle 0x0A#8 ((s.aslFlags s.a).setA (aslResult s.a s.c))

/-- R160, 0x0E `ASL $hhll`. -/
def execAslAbs (w : Word) (s : State) : Result := execAsl 0x0E#8 (.abs w) s

/-- R160, 0x16 `ASL $nn,X`. -/
def execAslZpx (z : Byte) (s : State) : Result := execAsl 0x16#8 (.zpx z) s

/-- R160, 0x1E `ASL $hhll,X`. -/
def execAslAbsx (w : Word) (s : State) : Result := execAsl 0x1E#8 (.absx w) s

/-- R161 LSR on memory: the operand is the byte at EA and the result goes back to it (R96). -/
def execLsr (op : Byte) (o : Operand) (s : State) : Result :=
  execModify op o (fun t m => lsrResult m t.c) (fun t m => t.lsrFlags m) s

/-- R161, 0x46 `LSR $nn`. -/
def execLsrZp (z : Byte) (s : State) : Result := execLsr 0x46#8 (.zp z) s

/-- R161, 0x4A `LSR A`: the operand is A and the result goes back to A (R91, R96). -/
def execLsrA (s : State) : Result :=
  execSingle 0x4A#8 ((s.lsrFlags s.a).setA (lsrResult s.a s.c))

/-- R161, 0x4E `LSR $hhll`. -/
def execLsrAbs (w : Word) (s : State) : Result := execLsr 0x4E#8 (.abs w) s

/-- R161, 0x56 `LSR $nn,X`. -/
def execLsrZpx (z : Byte) (s : State) : Result := execLsr 0x56#8 (.zpx z) s

/-- R161, 0x5E `LSR $hhll,X`. -/
def execLsrAbsx (w : Word) (s : State) : Result := execLsr 0x5E#8 (.absx w) s

/-- R162 ROL on memory: the operand is the byte at EA and the result goes back to it (R96). -/
def execRol (op : Byte) (o : Operand) (s : State) : Result :=
  execModify op o (fun t m => rolResult m t.c) (fun t m => t.rolFlags m) s

/-- R162, 0x26 `ROL $nn`. -/
def execRolZp (z : Byte) (s : State) : Result := execRol 0x26#8 (.zp z) s

/-- R162, 0x2A `ROL A`: the operand is A and the result goes back to A (R91, R96). -/
def execRolA (s : State) : Result :=
  execSingle 0x2A#8 ((s.rolFlags s.a).setA (rolResult s.a s.c))

/-- R162, 0x2E `ROL $hhll`. -/
def execRolAbs (w : Word) (s : State) : Result := execRol 0x2E#8 (.abs w) s

/-- R162, 0x36 `ROL $nn,X`. -/
def execRolZpx (z : Byte) (s : State) : Result := execRol 0x36#8 (.zpx z) s

/-- R162, 0x3E `ROL $hhll,X`. -/
def execRolAbsx (w : Word) (s : State) : Result := execRol 0x3E#8 (.absx w) s

/-- R163 ROR on memory: the operand is the byte at EA and the result goes back to it (R96). -/
def execRor (op : Byte) (o : Operand) (s : State) : Result :=
  execModify op o (fun t m => rorResult m t.c) (fun t m => t.rorFlags m) s

/-- R163, 0x66 `ROR $nn`. -/
def execRorZp (z : Byte) (s : State) : Result := execRor 0x66#8 (.zp z) s

/-- R163, 0x6A `ROR A`: the operand is A and the result goes back to A (R91, R96). -/
def execRorA (s : State) : Result :=
  execSingle 0x6A#8 ((s.rorFlags s.a).setA (rorResult s.a s.c))

/-- R163, 0x6E `ROR $hhll`. -/
def execRorAbs (w : Word) (s : State) : Result := execRor 0x6E#8 (.abs w) s

/-- R163, 0x76 `ROR $nn,X`. -/
def execRorZpx (z : Byte) (s : State) : Result := execRor 0x76#8 (.zpx z) s

/-- R163, 0x7E `ROR $hhll,X`. -/
def execRorAbsx (w : Word) (s : State) : Result := execRor 0x7E#8 (.absx w) s

end Sys2Proof.Machine
end

