-- ==== Sys2Proof/Machine/Stack.lean ====
section
/-! DEFINITION. The stack instructions (43_stack.md). -/

namespace Sys2Proof.Machine

/-- R122 PHA, 0x48: `Push(A)`. -/
def execPha (s : State) : Result :=
  execSingle 0x48#8 (s.push s.a)

/-- R123 PHP, 0x08: `Push(packStatus())`; bit 4 is the stored B flag (log 24). -/
def execPhp (s : State) : Result :=
  execSingle 0x08#8 (s.push s.packStatus)

/-- R124 PLA, 0x68: `A <- Pull(); if PLA_SETS_NZ: SetZN(A)` (R12). -/
def execPla (s : State) : Result :=
  execSingle 0x68#8 (if s.params.plaSetsNZ then (s.pull.2.setA s.pull.1).setZN s.pull.1 else s.pull.2.setA s.pull.1)

/-- R125 PLP, 0x28: `unpackStatus(Pull())`; the only instruction that writes I, D and B. -/
def execPlp (s : State) : Result :=
  execSingle 0x28#8 (s.pull.2.unpackStatus s.pull.1)

end Sys2Proof.Machine
end

