-- ==== Sys2Proof/Machine/Store.lean ====
section
/-! DEFINITION. The store instructions (41_load_store.md): STA, STX, STY, one definition per form. -/

namespace Sys2Proof.Machine

/-- R103 STA: `MemWrite(EA, 1, A)`; no flag. -/
def execSta (op : Byte) (o : Operand) (s : State) : Result := execStore op o s.a s

/-- R103, 0x81 `STA ($nn,X)`. -/
def execStaIzx (z : Byte) (s : State) : Result := execSta 0x81#8 (.izx z) s

/-- R103, 0x85 `STA $nn`. -/
def execStaZp (z : Byte) (s : State) : Result := execSta 0x85#8 (.zp z) s

/-- R103, 0x8D `STA $hhll`. -/
def execStaAbs (w : Word) (s : State) : Result := execSta 0x8D#8 (.abs w) s

/-- R103, 0x91 `STA ($nn),Y`. -/
def execStaIzy (z : Byte) (s : State) : Result := execSta 0x91#8 (.izy z) s

/-- R103, 0x95 `STA $nn,X`. -/
def execStaZpx (z : Byte) (s : State) : Result := execSta 0x95#8 (.zpx z) s

/-- R103, 0x99 `STA $hhll,Y`. -/
def execStaAbsy (w : Word) (s : State) : Result := execSta 0x99#8 (.absy w) s

/-- R103, 0x9D `STA $hhll,X`. -/
def execStaAbsx (w : Word) (s : State) : Result := execSta 0x9D#8 (.absx w) s

/-- R104 STX: `MemWrite(EA, 1, X)`; no flag. -/
def execStx (op : Byte) (o : Operand) (s : State) : Result := execStore op o s.x s

/-- R104, 0x86 `STX $nn`. -/
def execStxZp (z : Byte) (s : State) : Result := execStx 0x86#8 (.zp z) s

/-- R104, 0x8E `STX $hhll`. -/
def execStxAbs (w : Word) (s : State) : Result := execStx 0x8E#8 (.abs w) s

/-- R104, 0x96 `STX $nn,Y`. -/
def execStxZpy (z : Byte) (s : State) : Result := execStx 0x96#8 (.zpy z) s

/-- R105 STY: `MemWrite(EA, 1, Y)`; no flag. -/
def execSty (op : Byte) (o : Operand) (s : State) : Result := execStore op o s.y s

/-- R105, 0x84 `STY $nn`. -/
def execStyZp (z : Byte) (s : State) : Result := execSty 0x84#8 (.zp z) s

/-- R105, 0x8C `STY $hhll`. -/
def execStyAbs (w : Word) (s : State) : Result := execSty 0x8C#8 (.abs w) s

/-- R105, 0x94 `STY $nn,X`. -/
def execStyZpx (z : Byte) (s : State) : Result := execSty 0x94#8 (.zpx z) s

end Sys2Proof.Machine
end

