-- ==== Sys2Proof/Machine/Transfer.lean ====
section
/-! DEFINITION. The register transfers (42_transfer.md). -/

namespace Sys2Proof.Machine

/-- R110 TAX, 0xAA: `X <- A; SetZN(X)`. -/
def execTax (s : State) : Result :=
  execSingle 0xAA#8 ((s.setX s.a).setZN s.a)

/-- R111 TAY, 0xA8: `Y <- A; SetZN(Y)`. -/
def execTay (s : State) : Result :=
  execSingle 0xA8#8 ((s.setY s.a).setZN s.a)

/-- R112 TXA, 0x8A: `A <- X; SetZN(A)`. -/
def execTxa (s : State) : Result :=
  execSingle 0x8A#8 ((s.setA s.x).setZN s.x)

/-- R113 TYA, 0x98: `A <- Y; SetZN(A)`. -/
def execTya (s : State) : Result :=
  execSingle 0x98#8 ((s.setA s.y).setZN s.y)

/-- R114 TSX, 0xBA: `X <- SP; SetZN(X)`. -/
def execTsx (s : State) : Result :=
  execSingle 0xBA#8 ((s.setX s.sp).setZN s.sp)

/-- R115 TXS, 0x9A: `SP <- X; if TXS_SETS_NZ: SetZN(SP)` (R11, C8). -/
def execTxs (s : State) : Result :=
  execSingle 0x9A#8 (if s.params.txsSetsNZ then (s.setSp s.x).setZN s.x else s.setSp s.x)

end Sys2Proof.Machine
end

