-- ==== Sys2Proof/Machine/Fetch.lean ====
section
/-! DEFINITION. Fetching an instruction's bytes, the source's `execute(opcode)` (R93), and placing an
instruction where the step fetches. -/

namespace Sys2Proof.Machine

/-- The byte `k` places after the address PC holds, the address reduced modulo 2^16 (R60, R81). -/
def State.fetchByte (s : State) (k : Nat) : Except Fault Byte :=
  s.read (s.pc + BitVec.ofNat 16 k).toNat

/-- The instruction at PC whose opcode byte is `op` (R93). `execute` itself does not read the opcode; its
operand bytes it reads in address order. -/
def State.instrOf (s : State) (op : Byte) : Except Fault Instr :=
  decodeFrom s.params.optFlagNop .unimplementedOpcode (fun k => if k = 0 then .ok op else s.fetchByte k)

/-- `execute(opcode)` (R93, R99): the opcode is looked up before any effect, then the operand bytes are
fetched, then the instruction has its effect. -/
def execute (op : Byte) (s : State) : Result :=
  match s.instrOf op with
  | .error e => raise e
  | .ok i => exec i s

/-- What a descriptor's behaviour does when the Dispatcher invokes it "with the shared RegisterFile and Memory"
(R93): it resolves its mode from the operand bytes after PC, then has its operation's effect, flags and cycle
count with it. PC is still that of the opcode, which `exec` consumes too (D2, log 11). None for a pair of
resolver and operation that no row has (log 26). -/
def State.invoke (s : State) (b : Behavior) : Option Result :=
  match b.form with
  | none => none
  | some form =>
    match form.read s.fetchByte with
    | .error e => some (raise e)
    | .ok i => some (exec i s)

/-- The caller's fetch loop, once around (R204): `op <- MemRead(PC, 1)`, then `execute(op)`. -/
def fetchAndExecute (s : State) : Result :=
  match s.fetchByte 0 with
  | .error e => raise e
  | .ok op => execute op s

/-- A byte stored at the address `k` places after PC, where that address is backed. -/
def State.placeByte (s : State) (k : Nat) (v : Byte) : State :=
  match s.write (s.pc + BitVec.ofNat 16 k).toNat v with
  | .error _ => s
  | .ok t => t

/-- The state with a word's three bytes stored where the step fetches its next instruction. A row that is
present only with OPT_FLAG_NOP is fetched only with that option, which is set for it and for no other
(log 16). -/
def State.placeWord (s : State) (w : Nat) : State :=
  let t := ((s.placeByte 0 (BitVec.ofNat 8 w)).placeByte 1 (BitVec.ofNat 8 (w / 256))).placeByte 2
    (BitVec.ofNat 8 (w / 65536))
  match lookup true (BitVec.ofNat 8 w) with
  | some r =>
    if r.mnemonic.optional then { t with params := { t.params with optFlagNop := true } } else t
  | none => t

end Sys2Proof.Machine
end

