-- ==== Sys2Proof/Machine/Step.lean ====
section
/-! DEFINITION. The step of the machine (70_reset_and_hazards.md R204), and the state in which it runs a
given word next. -/

namespace Sys2Proof.Machine

/-- One step (R204): fetch the opcode at PC and execute it. It is deterministic, and it never skips an
absent opcode (D25). -/
def step (s : State) : Host.Outcome State Fault Refusal := fetchAndExecute s

/-- `s` with the instruction of a word, numbered as spec/opcode_table.json numbers it, stored where `step`
fetches; every bit from `nbits` on is zero (log 16). -/
def State.withFetchWord (s : State) (nbits w : Nat) : State := s.placeWord (w % 2 ^ nbits)

end Sys2Proof.Machine
end

