-- ==== Sys2Proof/Machine/HostOps.lean ====
section
/-! DEFINITION. What the caller can do to the core between steps (70_reset_and_hazards.md R209): no step
does any of it, and a claim about a run assumes none of it but what its premises say (D27, log 18). -/

namespace Sys2Proof.Machine

/-- The width of a register in bits (R9). -/
def Reg.width : Reg → Nat
  | .a | .x | .y | .sp => 8
  | .pc => 16

/-- A register getter (R36). -/
def State.getReg (s : State) : Reg → Nat
  | .a => s.a.toNat
  | .x => s.x.toNat
  | .y => s.y.toNat
  | .sp => s.sp.toNat
  | .pc => s.pc.toNat

/-- A register setter that takes any number: a value of `2^w` or more for a `w`-bit register raises
InvalidRegisterValue, and the register keeps its value (R36, R183, log 19). -/
def State.setReg (s : State) (r : Reg) (value : Nat) : Except Fault State :=
  if value < 2 ^ r.width then
    match r with
    | .a => .ok (s.setA (BitVec.ofNat 8 value))
    | .x => .ok (s.setX (BitVec.ofNat 8 value))
    | .y => .ok (s.setY (BitVec.ofNat 8 value))
    | .sp => .ok (s.setSp (BitVec.ofNat 8 value))
    | .pc => .ok (s.setPc (BitVec.ofNat 16 value))
  else .error (.invalidRegisterValue r value)

/-- A flag getter (R36). -/
def State.getFlag (s : State) : Flag → Bool
  | .c => s.c
  | .z => s.z
  | .i => s.i
  | .d => s.d
  | .b => s.b
  | .v => s.v
  | .n => s.n

/-- A flag setter (R36): that flag and nothing else. -/
def State.setFlag (s : State) (f : Flag) (value : Bool) : State :=
  match f with
  | .c => s.setC value
  | .z => s.setZ value
  | .i => s.setI value
  | .d => s.setD value
  | .b => s.setB value
  | .v => s.setV value
  | .n => s.setN value

/-- The descriptor the caller gets: the four fields of R63, with the opcode's entry of CYCLES (R14). -/
structure DescriptorInfo where
  opcode : Byte
  assemblerFormat : String
  operandLength : Nat
  behavior : Behavior
  cycles : CycleEntry
  deriving DecidableEq, Repr

/-- `lookup(op)` (R63, R209): the descriptor or none; it reads the constant table and changes nothing. -/
def State.lookupInfo (s : State) (op : Byte) : Option DescriptorInfo :=
  match lookup s.params.optFlagNop op with
  | none => none
  | some d =>
    some { opcode := d.opcode, assemblerFormat := d.assemblerFormat, operandLength := d.length,
           behavior := d.behavior, cycles := cycleEntry s.params op }

/-- The state a caller may see after `execute` raised an exception (R181, R184). After UnimplementedOpcode
nothing has changed. After OutOfRange memory, registers and flags are unchanged and PC is any value from
`PC_entry + 1` to `PC_entry + length` (D9): `free` says which, and nothing constrains it (log 6). -/
def State.afterFault (s : State) (free length : Nat) (e : Fault) : State :=
  match e with
  | .outOfRange _ => s.setPc (s.pc + BitVec.ofNat 16 (1 + free % length))
  | .unimplementedOpcode _ => s
  | .invalidRegisterValue _ _ => s

/-- The length of the instruction an opcode begins (R64); 1 where it has no row. -/
def opcodeLength (opt : Bool) (op : Byte) : Nat :=
  match lookup opt op with
  | some d => d.length
  | none => 1

/-- The state a run stops in when its next step raised `e` (R204, R205). An exception of the caller's own
opcode fetch leaves the state as it was; one inside `execute` leaves what `afterFault` says, so that after
OutOfRange PC is the value `free` picks within the instruction (R184, D9; log 6). -/
def State.afterStop (s : State) (free : Nat) (e : Fault) : State :=
  match s.fetchByte 0 with
  | .error _ => s
  | .ok op => s.afterFault free (opcodeLength s.params.optFlagNop op) e

/-- The caller's operations, one constructor per row of R209. -/
inductive HostCall where
  | execute (op : Byte)
  | getReg (r : Reg)
  | setReg (r : Reg) (value : Nat)
  | getFlag (f : Flag)
  | setFlag (f : Flag) (value : Bool)
  | read (addr : Nat)
  | write (addr : Nat) (value : Byte)
  | clear
  | lookup (op : Byte)
  deriving DecidableEq, Repr

/-- What the caller gets back (R209). -/
inductive HostReply where
  | nothing
  | cycles (count : Nat)
  | register (value : Nat)
  | flag (value : Bool)
  | byte (value : Byte)
  | descriptor (info : Option DescriptorInfo)
  | err (e : Fault)
  | refused (r : Refusal)
  deriving DecidableEq, Repr

/-- One operation of the caller (R209). `free` is the value R184 leaves open, used only after an OutOfRange
inside `execute`. -/
def hostCall (free : Nat) (call : HostCall) (s : State) : HostReply × State :=
  match call with
  | .execute op =>
    match execute op s with
    | .next t => (.cycles t.lastCycles, t)
    | .fault e => (.err e, s.afterFault free (opcodeLength s.params.optFlagNop op) e)
    | .refused r => (.refused r, s)
  | .getReg r => (.register (s.getReg r), s)
  | .setReg r value =>
    match s.setReg r value with
    | .ok t => (.nothing, t)
    | .error e => (.err e, s)
  | .getFlag f => (.flag (s.getFlag f), s)
  | .setFlag f value => (.nothing, s.setFlag f value)
  | .read addr =>
    match s.read addr with
    | .ok v => (.byte v, s)
    | .error e => (.err e, s)
  | .write addr value =>
    match s.write addr value with
    | .ok t => (.nothing, t)
    | .error e => (.err e, s)
  | .clear => (.nothing, s.clear)
  | .lookup op => (.descriptor (s.lookupInfo op), s)

end Sys2Proof.Machine
end

