-- ==== Sys2Proof/Safety.lean ====
section
/-! DEFINITION. What counts as a safe state and how a run ends (70_reset_and_hazards.md R203 to R205), in the
terms claims use. The halt address H is a premise of a claim, so it is an argument here (D25, log 17). -/

namespace Sys2Proof.Safety

open Sys2Proof.Machine

/-- The invariant of the model: memory is in its canonical form. -/
abbrev CanonicalMemory (s : State) : Prop := s.mem.wf

/-- How a step ends a run (R205). -/
inductive RunEnd where
  /-- UnimplementedOpcode with PC at the halt address: the run ends normally. -/
  | normal (op : Byte)
  /-- UnimplementedOpcode at another address. -/
  | unimplementedElsewhere (op : Byte)
  /-- Any other exception: a faulted end, never final. -/
  | faulted (e : Fault)
  /-- No meaning; no instruction of the table gives this. -/
  | refused (r : Refusal)
  deriving DecidableEq, Repr

/-- How the next step ends the run with halt address `h`, if it does (R204, R205). -/
def stepEnd (h : Word) (s : State) : Option RunEnd :=
  match step s with
  | .next _ => none
  | .fault (.unimplementedOpcode op) =>
    if s.pc = h then some (.normal op) else some (.unimplementedElsewhere op)
  | .fault (.outOfRange addr) => some (.faulted (.outOfRange addr))
  | .fault (.invalidRegisterValue r v) => some (.faulted (.invalidRegisterValue r v))
  | .refused r => some (.refused r)

/-- The state a run is left in at `s`: `s` itself while the next step has a next state, and what
`State.afterStop` says where the next step raises. -/
def stopState (free : Nat) (s : State) : State :=
  match step s with
  | .next _ => s
  | .fault e => s.afterStop free e
  | .refused _ => s

/-- A run of at most `fuel` steps: the state it stops in, the cycles of its completed steps (R193: the total
is the caller's), and how it ended, if it did. After OutOfRange inside `execute` the spec leaves PC open
within PC_entry + 1 to PC_entry + length (R184, D9): `free` says which, and nothing constrains it (log 6). -/
def run (h : Word) (free fuel : Nat) (s : State) : State × Nat × Option RunEnd :=
  match fuel with
  | 0 => (stopState free s, 0, stepEnd h s)
  | fuel + 1 =>
    match step s with
    | .next t =>
      match run h free fuel t with
      | (last, cycles, ending) => (last, t.lastCycles + cycles, ending)
    | .fault _ => (stopState free s, 0, stepEnd h s)
    | .refused _ => (stopState free s, 0, stepEnd h s)

/-- The run from `s` ends normally at `h` (R205), whatever the open PC of a faulted end. -/
def EndsNormally (h : Word) (s : State) : Prop :=
  ∃ fuel op, ∀ free, (run h free fuel s).2.2 = some (.normal op)

end Sys2Proof.Safety
end

