-- ==== Sys2Proof/Certificates/Slice0/Obligations.lean ====
section
/-! DEFINITION. The statements about the model, from the numbered rules of spec/. Opcode values, bit layouts
and wraps that the spec marks as its own decisions are named where a statement rests on them. -/

namespace Sys2Proof.Claims

open Sys2Proof.Machine

/-- The byte an operand names: an Immediate's own byte, else the cell its effective address reaches. -/
def value (o : Operand) (s : State) : Byte :=
  match o with
  | .imm v => v
  | o => s.mem.cell ((effectiveAddress o s).toNat % 2048)

/-- The operand can be read: it is Immediate, or its effective address is backed (R43). -/
def Readable (o : Operand) (s : State) : Prop :=
  (∃ v, o = .imm v) ∨ (effectiveAddress o s).toNat ≤ 0x1FFF

/-- Whether an instruction's resolver found a page crossing (R92). -/
def crossing (i : Instr) (s : State) : Bool :=
  match i.operand with
  | some o => pageCrossed o s
  | none => false

/-- `t` with PC past the instruction that ran in `s`, and its cycle count reported (R93, R94). -/
def finished (i : Instr) (s t : State) : State :=
  { t with pc := s.pc + BitVec.ofNat 16 i.length, lastCycles := cyclesOf s.params i.opcode (crossing i s) }

/-- `s` with Z and N of a result (R98). -/
def withZN (s : State) (r : Byte) : State := { s with z := decide (r = 0), n := r.getLsbD 7 }

/-- `t` reads as `s` at every backed address but those that reach the cell of `addr`, which read `v`; an
unbacked address raises in both. -/
def StoredAt (s t : State) (addr : Nat) (v : Byte) : Prop :=
  ∀ b, t.read b = if b ≤ 0x1FFF ∧ b % 2048 = addr % 2048 then .ok v else s.read b

/-- The address an instruction stores to: EA of a store or a read-modify-write on memory, the stack byte of a
push (R51). -/
def storeAddress (i : Instr) (s : State) : Option Nat :=
  match i.mnemonic, i.operand with
  | .sta, some o | .stx, some o | .sty, some o | .inc, some o | .dec, some o
  | .asl, some o | .lsr, some o | .rol, some o | .ror, some o => some (effectiveAddress o s).toNat
  | .pha, _ | .php, _ => some (0x0100 + s.sp.toNat)
  | _, _ => none

/-- The read-class mnemonics whose indexed forms take the page-crossing penalty (R94). -/
def penaltyMnemonics : List Mnemonic := [.lda, .ldx, .ldy, .and, .eor, .ora, .adc, .sbc, .cmp]

/-- The result and the carry out of a shift of `m` with carry `c`, in arithmetic (R160 to R163). -/
def shifted (k : Mnemonic) (m : Byte) (c : Bool) : Option (Byte × Bool) :=
  match k with
  | .asl => some (BitVec.ofNat 8 (2 * m.toNat), decide (128 ≤ m.toNat))
  | .lsr => some (BitVec.ofNat 8 (m.toNat / 2), decide (m.toNat % 2 = 1))
  | .rol => some (BitVec.ofNat 8 (2 * m.toNat + c.toNat), decide (128 ≤ m.toNat))
  | .ror => some (BitVec.ofNat 8 (m.toNat / 2 + 128 * c.toNat), decide (m.toNat % 2 = 1))
  | _ => none

/-- The 18 legal opcodes the spec excludes (R66 item 1). -/
def excludedOpcodes : List Nat :=
  [0x00, 0x10, 0x20, 0x30, 0x40, 0x4C, 0x50, 0x58, 0x60, 0x6C, 0x70, 0x78, 0x90, 0xB0, 0xD0, 0xD8, 0xF0, 0xF8]

/-- The 105 illegal or undocumented opcodes: the cells marked `-` in the map of R65, a line per row. -/
def illegalOpcodes : List Nat :=
  [0x02, 0x03, 0x04, 0x07, 0x0B, 0x0C, 0x0F] ++
    [0x12, 0x13, 0x14, 0x17, 0x1A, 0x1B, 0x1C, 0x1F] ++
    [0x22, 0x23, 0x27, 0x2B, 0x2F] ++
    [0x32, 0x33, 0x34, 0x37, 0x3A, 0x3B, 0x3C, 0x3F] ++
    [0x42, 0x43, 0x44, 0x47, 0x4B, 0x4F] ++
    [0x52, 0x53, 0x54, 0x57, 0x5A, 0x5B, 0x5C, 0x5F] ++
    [0x62, 0x63, 0x64, 0x67, 0x6B, 0x6F] ++
    [0x72, 0x73, 0x74, 0x77, 0x7A, 0x7B, 0x7C, 0x7F] ++
    [0x80, 0x82, 0x83, 0x87, 0x89, 0x8B, 0x8F] ++
    [0x92, 0x93, 0x97, 0x9B, 0x9C, 0x9E, 0x9F] ++
    [0xA3, 0xA7, 0xAB, 0xAF] ++
    [0xB2, 0xB3, 0xB7, 0xBB, 0xBF] ++
    [0xC2, 0xC3, 0xC7, 0xCB, 0xCF] ++
    [0xD2, 0xD3, 0xD4, 0xD7, 0xDA, 0xDB, 0xDC, 0xDF] ++
    [0xE2, 0xE3, 0xE7, 0xEB, 0xEF] ++
    [0xF2, 0xF3, 0xF4, 0xF7, 0xFA, 0xFB, 0xFC, 0xFF]

end Sys2Proof.Claims

open Sys2Proof Sys2Proof.Machine Sys2Proof.Safety Sys2Proof.Claims

/-! ## Encoding -/

/-- Every well-formed instruction's bytes decode to it, and to the bytes after it (R60 to R64). No bit of an
operand is dropped. -/
def Obligations.DecodeOfEncodeIsTheInstruction : Prop :=
  ∀ (opt : Bool) (i : Instr) (rest : List Byte), i.wf opt = true →
    decode opt (encode i ++ rest) = .ok (i, rest)

/-- The other direction: whatever bytes decode are the encoding of the well-formed instruction they decode
to, followed by the bytes left over (R60, R63). -/
def Obligations.DecodedBytesAreTheEncoding : Prop :=
  ∀ (opt : Bool) (bytes : List Byte) (i : Instr) (rest : List Byte), decode opt bytes = .ok (i, rest) →
    bytes = encode i ++ rest ∧ i.wf opt = true

/-- Which opcodes have no row: the excluded 18, the illegal 105, and the optional four without OPT_FLAG_NOP
(R65, R66; the opcode values are the spec's general knowledge, log 7). -/
def Obligations.AbsentOpcodes : Prop :=
  ∀ (opt : Bool) (op : Byte), (lookup opt op).isNone = true ↔
    op.toNat ∈ excludedOpcodes ∨ op.toNat ∈ illegalOpcodes ∨
      (opt = false ∧ op.toNat ∈ [0x18, 0x38, 0xB8, 0xEA])

/-- One word of each family, written out from the spec's encodings, decodes to its instruction. The opcode
values are the spec's general knowledge (D11, log 7). CLV decodes because `decodeTableWord` decodes with
OPT_FLAG_NOP on (log 16); the spec's default is off (D13), and 0xB8 is absent then. -/
def Obligations.SampleWordsDecode : Prop :=
  decodeTableWord 16 0x0AA9 = some (.ldaImm 0x0A) ∧ decodeTableWord 24 0x08058D = some (.staAbs 0x0805) ∧
    decodeTableWord 8 0xBA = some .tsx ∧ decodeTableWord 8 0x28 = some .plp ∧
    decodeTableWord 16 0x2031 = some (.andIzy 0x20) ∧ decodeTableWord 24 0x02F0FE = some (.incAbsx 0x02F0) ∧
    decodeTableWord 8 0x6A = some .rorA ∧ decodeTableWord 8 0xB8 = some .clv

/-- The layout `aaabbbcc` of the `cc = 01` column (R69, the spec's general knowledge): `aaa` selects the
mnemonic and `bbb` the mode, but for 0x89, which is absent. -/
def Obligations.ColumnOneFollowsTheLayout : Prop :=
  ∀ (aaa bbb : Fin 8), ¬(aaa = 4 ∧ bbb = 2) →
    let row := lookup true (BitVec.ofNat 8 (aaa.val * 32 + bbb.val * 4 + 1))
    row.map Descriptor.mnemonic = [Mnemonic.ora, .and, .eor, .adc, .sta, .lda, .cmp, .sbc][aaa.val]? ∧
      row.map Descriptor.mode = [Mode.indirectX, .zeroPage, .immediate, .absolute, .indirectY, .zeroPageX,
        .absoluteY, .absoluteX][bbb.val]?

/-! ## The step -/

/-- A step runs the decoded instruction and adds nothing around it: where the bytes at PC (addresses modulo
2^16) are those of a well-formed instruction, the step is `exec` of it (R93, R204). -/
def Obligations.StepRunsTheDecodedInstruction : Prop :=
  ∀ (s : State) (i : Instr), i.wf s.params.optFlagNop = true →
    (∀ k b, (encode i)[k]? = some b → s.read (s.pc + BitVec.ofNat 16 k).toNat = .ok b) →
    step s = exec i s

/-- An opcode with no row: `execute` raises UnimplementedOpcode, the caller sees no change at all, and a step
that fetches it stops so (R66, R181, R204; the spec's decision D10). -/
def Obligations.AbsentOpcodeRaisesUnimplemented : Prop :=
  ∀ (s : State) (op : Byte), lookup s.params.optFlagNop op = none →
    execute op s = .fault (.unimplementedOpcode op) ∧
      (∀ free, hostCall free (.execute op) s = (.err (.unimplementedOpcode op), s)) ∧
      (s.read s.pc.toNat = .ok op → step s = .fault (.unimplementedOpcode op))

/-- The fetch faults: an opcode byte at an unbacked PC, or the first operand byte whose address is unbacked,
raises OutOfRange with that address (R81, R182, R185, R204). -/
def Obligations.FetchFaultsOnAnUnbackedByte : Prop :=
  ∀ (s : State),
    (0x1FFF < s.pc.toNat → step s = .fault (.outOfRange s.pc.toNat)) ∧
      (∀ op d k, s.read s.pc.toNat = .ok op → lookup s.params.optFlagNop op = some d → 0 < k → k < d.length →
        (∀ j, j < k → (s.pc + BitVec.ofNat 16 j).toNat ≤ 0x1FFF) →
        0x1FFF < (s.pc + BitVec.ofNat 16 k).toNat →
        step s = .fault (.outOfRange (s.pc + BitVec.ofNat 16 k).toNat))

/-- The only ways a step stops: an access above 0x1FFF, or an opcode at PC with no row. It never refuses and
raises no other exception (R180, R182, R183). -/
def Obligations.StepStopsOnlyByTheTwoExceptions : Prop :=
  ∀ (s : State), (∀ r, step s ≠ .refused r) ∧
    ∀ e, step s = .fault e →
      (∃ addr, 0x1FFF < addr ∧ e = .outOfRange addr) ∨
        (∃ op, s.read s.pc.toNat = .ok op ∧ lookup s.params.optFlagNop op = none ∧ e = .unimplementedOpcode op)

/-- When `exec` of an instruction stops: an operand in memory whose effective address is unbacked, with that
address, or an optional instruction without its option (log 15); otherwise it answers a next state (R182,
R184, R170). That a store out of range raises is the spec's decision D8 (C5, log 10). -/
def Obligations.ExecCompletesExactlyWhenItsAccessIsBacked : Prop :=
  ∀ (i : Instr) (s : State),
    (∀ o, i.operand = some o → ¬ Readable o s →
        exec i s = .fault (.outOfRange (effectiveAddress o s).toNat)) ∧
      (i.wf s.params.optFlagNop = false → exec i s = .fault (.unimplementedOpcode i.opcode)) ∧
      ((∀ o, i.operand = some o → Readable o s) → i.wf s.params.optFlagNop = true →
        ∃ t, exec i s = .next t)

/-- A run ends normally at H exactly when PC is H and the opcode there has no row (R205, D25). -/
def Obligations.NormalEndIsAnAbsentOpcodeAtH : Prop :=
  ∀ (h : Word) (s : State) (op : Byte), stepEnd h s = some (.normal op) ↔
    s.pc = h ∧ s.read s.pc.toNat = .ok op ∧ lookup s.params.optFlagNop op = none

/-! ## Memory -/

/-- R43: a read at or below 0x1FFF gives `cell[address & 0x07FF]`, any other address raises OutOfRange, and a
read changes no state. -/
def Obligations.ReadGivesTheCellOrRaises : Prop :=
  ∀ (s : State) (addr : Nat),
    (addr ≤ 0x1FFF → s.read addr = .ok (s.mem.cell (addr &&& 0x07FF))) ∧
      (0x1FFF < addr → s.read addr = .error (.outOfRange addr)) ∧
      ∀ free, (hostCall free (.read addr) s).2 = s

/-- R42: the three mirrors reach the cells of the 2048-cell block, for reads and for writes. -/
def Obligations.MirrorsReachTheSameCell : Prop :=
  ∀ (s : State) (a k : Nat) (v : Byte), a ≤ 0x07FF → k < 4 →
    (a + k * 0x0800) &&& 0x07FF = a ∧ s.read (a + k * 0x0800) = .ok (s.mem.cell a) ∧
      s.write (a + k * 0x0800) v = s.write a v

/-- A write to a backed address changes the one cell it reaches and nothing else; any other raises and
changes nothing (R45, R44; the spec's decision D8). -/
def Obligations.WriteChangesOneCellOrRaises : Prop :=
  ∀ (s : State) (addr : Nat) (v : Byte),
    (addr ≤ 0x1FFF → ∃ t, s.write addr v = .ok t ∧ StoredAt s t addr v ∧ { t with mem := s.mem } = s) ∧
      (0x1FFF < addr → s.write addr v = .error (.outOfRange addr) ∧
        ∀ free, hostCall free (.write addr v) s = (.err (.outOfRange addr), s))

/-- R46: `clear()` sets every cell to zero, changes no register, and is the caller's operation. -/
def Obligations.ClearZeroesEveryCell : Prop :=
  ∀ (s : State),
    (∀ k, k < 2048 → s.clear.mem.cell k = 0) ∧ (∀ addr, addr ≤ 0x1FFF → s.clear.read addr = .ok 0) ∧
      { s.clear with mem := s.mem } = s ∧ ∀ free, hostCall free .clear s = (.nothing, s.clear)

/-- Canonical memories that hold the same bytes are the same list, so equal memories are equal data. -/
def Obligations.CanonicalMemoriesAreExtensional : Prop :=
  ∀ (m n : Memory), m.wf → n.wf → (∀ k, m.cell k = n.cell k) → m = n

/-! ## Invariants -/

/-- Every step keeps the memory's canonical form: indexes rising and below 2048, no entry 0x00 (R41). -/
def Obligations.StepKeepsTheMemoryCanonical : Prop :=
  ∀ (s t : State), CanonicalMemory s → step s = .next t → CanonicalMemory t

/-- The invariant holds at reset. -/
def Obligations.ResetMeetsTheInvariant : Prop := CanonicalMemory State.reset

/-- Every operation of the caller keeps the invariant, whatever the value R184 leaves open (R209). -/
def Obligations.HostCallsKeepTheInvariant : Prop :=
  ∀ (free : Nat) (call : HostCall) (s : State), CanonicalMemory s → CanonicalMemory (hostCall free call s).2

/-- No step changes a parameter (R11 to R14; that State carries them is log 3). -/
def Obligations.StepKeepsTheParameters : Prop :=
  ∀ (s t : State), step s = .next t → t.params = s.params

/-- The launch state of the model: the default start state of 95_test_vectors.md, every cell zero, the four
parameters at the spec's defaults, CYCLES among them. The spec gives no reset value: the values are the model's (log 1, log
2). -/
def Obligations.ResetIsTheDefaultStartState : Prop :=
  let r := State.reset
  (r.a = 0 ∧ r.x = 0 ∧ r.y = 0 ∧ r.sp = 0xFF ∧ r.pc = 0x0200) ∧
    (r.c = false ∧ r.z = false ∧ r.i = false ∧ r.d = false ∧ r.b = false ∧ r.v = false ∧ r.n = false) ∧
    (r.params.txsSetsNZ = true ∧ r.params.plaSetsNZ = false ∧ r.params.optFlagNop = false) ∧
    (∀ op, cycleEntry r.params op = defaultCycles op) ∧
    ∀ addr, addr ≤ 0x1FFF → r.read addr = .ok 0

/-! ## Addressing modes -/

/-- R82: an Immediate's EA is the address of byte 1 of the instruction, and the instruction `execute` runs
carries the byte there as its operand; PC ends two past the opcode. That PC at entry is the opcode's address is
the spec's decision D2 (log 11). -/
def Obligations.ImmediateIsTheNextByte : Prop :=
  ∀ (i : Instr) (v : Byte) (s : State), i.operand = some (.imm v) →
    encode i = [i.opcode, v] ∧ i.length = 2 ∧ effectiveAddress (.imm v) s = s.pc + 1 ∧
      (∀ op, s.instrOf op = .ok i → s.read (effectiveAddress (.imm v) s).toNat = .ok v) ∧
      ∀ t, exec i s = .next t → t.pc = s.pc + 2

/-- R83, R84, R85: the zero-page modes. The operand byte is the address, or the index is added to it modulo
256; only LDX and STX have ZeroPage,Y. -/
def Obligations.ZeroPageModesStayInPageZero : Prop :=
  ∀ (i : Instr) (z : Byte) (s : State),
    (i.operand = some (.zp z) → encode i = [i.opcode, z] ∧ i.length = 2 ∧
        (effectiveAddress (.zp z) s).toNat = z.toNat) ∧
      (i.operand = some (.zpx z) → encode i = [i.opcode, z] ∧ i.length = 2 ∧
        (effectiveAddress (.zpx z) s).toNat = (z.toNat + s.x.toNat) % 256) ∧
      (i.operand = some (.zpy z) → encode i = [i.opcode, z] ∧ i.length = 2 ∧
        (i.mnemonic = .ldx ∨ i.mnemonic = .stx) ∧
        (effectiveAddress (.zpy z) s).toNat = (z.toNat + s.y.toNat) % 256)

/-- R86, R87, R88: the absolute modes. The low byte comes first; the index is added once, modulo 2^16, and
the page is crossed exactly when the high byte of the sum differs from that of the base. The wrap modulo 2^16,
and that it counts as a crossing, is the spec's decision D23 (log 14). -/
def Obligations.AbsoluteModesAddTheIndexOnce : Prop :=
  ∀ (i : Instr) (w : Word) (s : State),
    (i.operand = some (.abs w) → (∃ lo hi, encode i = [i.opcode, lo, hi] ∧ w.toNat = lo.toNat + hi.toNat * 256) ∧
        i.length = 3 ∧ effectiveAddress (.abs w) s = w) ∧
      (i.operand = some (.absx w) →
        (∃ lo hi, encode i = [i.opcode, lo, hi] ∧ w.toNat = lo.toNat + hi.toNat * 256) ∧ i.length = 3 ∧
        (effectiveAddress (.absx w) s).toNat = (w.toNat + s.x.toNat) % 65536 ∧
        (pageCrossed (.absx w) s = true ↔ w.toNat / 256 ≠ (w.toNat + s.x.toNat) % 65536 / 256)) ∧
      (i.operand = some (.absy w) →
        (∃ lo hi, encode i = [i.opcode, lo, hi] ∧ w.toNat = lo.toNat + hi.toNat * 256) ∧ i.length = 3 ∧
        (effectiveAddress (.absy w) s).toNat = (w.toNat + s.y.toNat) % 65536 ∧
        (pageCrossed (.absy w) s = true ↔ w.toNat / 256 ≠ (w.toNat + s.y.toNat) % 65536 / 256))

/-- R89, R90: the indirect modes. The pointer is two bytes of the zero page, low first, the second wrapping
within it, and neither read faults; (Indirect,X) indexes the pointer and crosses no page, (Indirect),Y adds Y
to what the pointer holds, modulo 2^16, a wrap that is the spec's decision D23 (log 14). -/
def Obligations.IndirectModesReadAZeroPagePointer : Prop :=
  ∀ (i : Instr) (z : Byte) (s : State),
    (i.operand = some (.izx z) → encode i = [i.opcode, z] ∧ i.length = 2 ∧
        pageCrossed (.izx z) s = false ∧
        ∃ lo hi, s.read ((z.toNat + s.x.toNat) % 256) = .ok lo ∧
          s.read (((z.toNat + s.x.toNat) % 256 + 1) % 256) = .ok hi ∧
          (effectiveAddress (.izx z) s).toNat = lo.toNat + hi.toNat * 256) ∧
      (i.operand = some (.izy z) → encode i = [i.opcode, z] ∧ i.length = 2 ∧
        ∃ lo hi, s.read z.toNat = .ok lo ∧ s.read ((z.toNat + 1) % 256) = .ok hi ∧
          (effectiveAddress (.izy z) s).toNat = (lo.toNat + hi.toNat * 256 + s.y.toNat) % 65536 ∧
          (pageCrossed (.izy z) s = true ↔
            hi.toNat ≠ (lo.toNat + hi.toNat * 256 + s.y.toNat) % 65536 / 256))

/-- R92: the page-cross predicate compares bits 15 to 8, and only Absolute,X, Absolute,Y and (Indirect),Y
assign it. -/
def Obligations.OnlyThreeModesCrossPages : Prop :=
  (∀ (base ea : Word), crossed base ea = true ↔ base.toNat / 256 ≠ ea.toNat / 256) ∧
    ∀ (o : Operand) (s : State),
      pageCrossed o s =
        (decide (o.mode ∈ [Mode.absoluteX, .absoluteY, .indirectY]) && crossed (operandBase o s) (effectiveAddress o s))

/-! ## The status byte -/

/-- The layout of the status byte: N V 1 B D I Z C from bit 7 down (R30; the layout is the spec's decision
D4). -/
def Obligations.PackStatusLayout : Prop :=
  ∀ (s : State), s.packStatus.getLsbD 7 = s.n ∧ s.packStatus.getLsbD 6 = s.v ∧ s.packStatus.getLsbD 5 = true ∧
    s.packStatus.getLsbD 4 = s.b ∧ s.packStatus.getLsbD 3 = s.d ∧ s.packStatus.getLsbD 2 = s.i ∧
    s.packStatus.getLsbD 1 = s.z ∧ s.packStatus.getLsbD 0 = s.c

/-- The status byte round trips: unpacking what was packed changes nothing, and packing what was unpacked
gives the byte with bit 5 set (R31, R32; D4). -/
def Obligations.StatusRoundTrips : Prop :=
  ∀ (s : State) (p : Byte), s.unpackStatus s.packStatus = s ∧ (s.unpackStatus p).packStatus = p ||| 0x20

/-- R98: SetZN writes Z from whether the byte is zero and N from its bit 7. -/
def Obligations.SetZNWritesZeroAndSign : Prop :=
  ∀ (s : State) (v : Byte), s.setZN v = { s with z := decide (v.toNat = 0), n := decide (v.toNat ≥ 128) }

/-! ## Rules over all instructions -/

/-- After `execute` PC is past the instruction's bytes, modulo 2^16, whatever the instruction: none assigns PC
(R29, R93, R190). -/
def Obligations.PcAdvancesByTheLength : Prop :=
  ∀ (i : Instr) (s t : State), exec i s = .next t →
    t.pc.toNat = (s.pc.toNat + (encode i).length) % 65536

/-- The count `execute` returns is the base count of the opcode in CYCLES, plus one when CYCLES marks the
opcode and a page was crossed (R14, R94). Where CYCLES has the default entry of the opcode (log 4; D16), the
mark is set exactly for the read class in an indexed absolute or indirect indexed mode. The two entries of the
source: LDA Immediate has 2, LDA Absolute,X has 4 and the mark. -/
def Obligations.CyclesAreBasePlusThePenalty : Prop :=
  defaultCycles 0xA9 = ⟨2, false⟩ ∧ defaultCycles 0xBD = ⟨4, true⟩ ∧
    ∀ (i : Instr) (s t : State), exec i s = .next t →
      t.lastCycles = (cycleEntry s.params i.opcode).base +
          (if (cycleEntry s.params i.opcode).penalty = true ∧ crossing i s = true then 1 else 0) ∧
        (cycleEntry s.params i.opcode = defaultCycles i.opcode →
          ((cycleEntry s.params i.opcode).penalty = true ↔
            i.mnemonic ∈ penaltyMnemonics ∧ i.mode ∈ [Mode.absoluteX, .absoluteY, .indirectY]))

/-- Which instructions can change A, X, Y and SP (R21, R28). -/
def Obligations.RegisterWriters : Prop :=
  ∀ (i : Instr) (s t : State), exec i s = .next t →
    (i.mnemonic ∉ [.lda, .txa, .tya, .pla, .and, .eor, .ora, .adc, .sbc] → i.mode ≠ .accumulator → t.a = s.a) ∧
      (i.mnemonic ∉ [.ldx, .tax, .tsx, .inx, .dex] → t.x = s.x) ∧
      (i.mnemonic ∉ [.ldy, .tay, .iny, .dey] → t.y = s.y) ∧
      (i.mnemonic ∉ [.pha, .php, .pla, .plp, .txs] → t.sp = s.sp)

/-- Which instructions can change each flag (R22 to R27); I, D and B change by PLP alone. -/
def Obligations.FlagWriters : Prop :=
  ∀ (i : Instr) (s t : State), exec i s = .next t →
    (i.mnemonic ∉ [.adc, .sbc, .cmp, .cpx, .cpy, .asl, .lsr, .rol, .ror, .plp, .clc, .sec] → t.c = s.c) ∧
      (i.mnemonic ∉ [.lda, .ldx, .ldy, .tax, .tay, .txa, .tya, .tsx, .and, .eor, .ora, .bit, .adc, .sbc, .cmp,
          .cpx, .cpy, .inc, .dec, .inx, .iny, .dex, .dey, .asl, .lsr, .rol, .ror, .plp] →
        ¬(i.mnemonic = .txs ∧ s.params.txsSetsNZ = true) → ¬(i.mnemonic = .pla ∧ s.params.plaSetsNZ = true) →
        t.z = s.z ∧ t.n = s.n) ∧
      (i.mnemonic ∉ [.bit, .adc, .sbc, .plp, .clv] → t.v = s.v) ∧
      (i.mnemonic ≠ .plp → t.i = s.i ∧ t.d = s.d ∧ t.b = s.b)

/-- The memory frame of every instruction: one that stores nothing leaves every address reading as before,
and one that stores leaves every address that does not reach the stored cell (R51, R97, R57). -/
def Obligations.MemoryFrame : Prop :=
  ∀ (i : Instr) (s t : State), exec i s = .next t →
    ∀ b, (∀ a, storeAddress i s = some a → b % 2048 ≠ a % 2048) → t.read b = s.read b

/-- I, D and B change no instruction's behaviour: with other values of them every instruction but PHP, which
packs them, answers the same state but for those flags, which PLP alone overwrites (R27, R153). That ADC and
SBC are binary is the spec's decision D15 (log 20), that PLP overwrites the three its reading C13 (log 24). -/
def Obligations.InterruptDecimalBreakHaveNoEffect : Prop :=
  ∀ (instr : Instr) (s t : State) (fi fd fb : Bool), instr.mnemonic ≠ .php → exec instr s = .next t →
    exec instr { s with i := fi, d := fd, b := fb } =
      .next (if instr.mnemonic = .plp then t else { t with i := fi, d := fd, b := fb })

/-! ## Loads, stores and transfers -/

/-- LDA, LDX and LDY: the register takes the operand, Z and N follow it, nothing else changes (R100 to
R102). -/
def Obligations.LoadsCopyTheOperand : Prop :=
  ∀ (i : Instr) (o : Operand) (s : State), i.operand = some o → Readable o s →
    (i.mnemonic = .lda → exec i s = .next (finished i s (withZN { s with a := value o s } (value o s)))) ∧
      (i.mnemonic = .ldx → exec i s = .next (finished i s (withZN { s with x := value o s } (value o s)))) ∧
      (i.mnemonic = .ldy → exec i s = .next (finished i s (withZN { s with y := value o s } (value o s))))

/-- STA, STX and STY: the cell EA reaches takes the register, through every mirror; no register, flag or
other cell changes (R97, R103 to R105). -/
def Obligations.StoresWriteTheRegister : Prop :=
  ∀ (i : Instr) (o : Operand) (s : State), i.operand = some o → (effectiveAddress o s).toNat ≤ 0x1FFF →
    ∀ v, (i.mnemonic = .sta ∧ v = s.a ∨ i.mnemonic = .stx ∧ v = s.x ∨ i.mnemonic = .sty ∧ v = s.y) →
      ∃ t, exec i s = .next t ∧ StoredAt s t (effectiveAddress o s).toNat v ∧
        { t with mem := s.mem } = finished i s s

/-- TAX, TAY, TXA, TYA and TSX copy a register and set Z and N from it (R110 to R114). -/
def Obligations.TransfersCopyARegister : Prop :=
  ∀ (s : State),
    exec .tax s = .next (finished .tax s (withZN { s with x := s.a } s.a)) ∧
      exec .tay s = .next (finished .tay s (withZN { s with y := s.a } s.a)) ∧
      exec .txa s = .next (finished .txa s (withZN { s with a := s.x } s.x)) ∧
      exec .tya s = .next (finished .tya s (withZN { s with a := s.y } s.y)) ∧
      exec .tsx s = .next (finished .tsx s (withZN { s with x := s.sp } s.sp))

/-- TXS copies X to SP, and sets Z and N from it exactly when TXS_SETS_NZ is true (R11, R115; D7). -/
def Obligations.TxsObeysItsParameter : Prop :=
  ∀ (s : State),
    (s.params.txsSetsNZ = true → exec .txs s = .next (finished .txs s (withZN { s with sp := s.x } s.x))) ∧
      (s.params.txsSetsNZ = false → exec .txs s = .next (finished .txs s { s with sp := s.x }))

/-! ## The stack -/

/-- R120: Push writes the byte at 0x0100 + SP, an address in 0x0100 to 0x01FF that never faults, then takes one
from SP modulo 256, and writes no flag. -/
def Obligations.PushWritesThenDecrements : Prop :=
  ∀ (s : State) (v : Byte), ∃ t, s.write (0x0100 + s.sp.toNat) v = .ok t ∧
    StoredAt s (s.push v) (0x0100 + s.sp.toNat) v ∧ (s.push v).sp.toNat = (s.sp.toNat + 255) % 256 ∧
    s.push v = { t with sp := (s.push v).sp } ∧ { s.push v with mem := s.mem, sp := s.sp } = s ∧
    0x0100 ≤ 0x0100 + s.sp.toNat ∧ 0x0100 + s.sp.toNat ≤ 0x01FF

/-- Pull adds one to SP modulo 256, then reads at 0x0100 + SP, which never faults, and changes nothing else
(R121; the order is the spec's decision D5). -/
def Obligations.PullIncrementsThenReads : Prop :=
  ∀ (s : State), s.read (0x0100 + (s.sp.toNat + 1) % 256) = .ok s.pull.1 ∧
    s.pull.2 = { s with sp := BitVec.ofNat 8 (s.sp.toNat + 1) }

/-- PHA and PHP push A and the packed status byte; no register but SP, no flag and no other cell changes
(R122, R123). -/
def Obligations.PushInstructions : Prop :=
  ∀ (i : Instr) (s : State) (v : Byte), (i = .pha ∧ v = s.a ∨ i = .php ∧ v = s.packStatus) →
    ∃ t, exec i s = .next t ∧ StoredAt s t (0x0100 + s.sp.toNat) v ∧
      { t with mem := s.mem } = finished i s { s with sp := s.sp - 1 }

/-- PLA pulls A, and sets Z and N from it exactly when PLA_SETS_NZ is true (R12, R124; D6). -/
def Obligations.PlaObeysItsParameter : Prop :=
  ∀ (s : State) (m : Byte), s.read (0x0100 + (s.sp + 1).toNat) = .ok m →
    (s.params.plaSetsNZ = false → exec .pla s = .next (finished .pla s { s with a := m, sp := s.sp + 1 })) ∧
      (s.params.plaSetsNZ = true →
        exec .pla s = .next (finished .pla s (withZN { s with a := m, sp := s.sp + 1 } m)))

/-- PLP pulls a byte and writes all seven flags from its bits 7, 6, 4, 3, 2, 1 and 0; bit 5 is ignored
(R31, R125; the layout is D4, log 8, the order D5, log 9, and that I, D and B are written C13, log 24). -/
def Obligations.PlpWritesSevenFlags : Prop :=
  ∀ (s : State) (p : Byte), s.read (0x0100 + (s.sp + 1).toNat) = .ok p →
    exec .plp s = .next (finished .plp s
      { s with sp := s.sp + 1, n := p.getLsbD 7, v := p.getLsbD 6, b := p.getLsbD 4, d := p.getLsbD 3,
               i := p.getLsbD 2, z := p.getLsbD 1, c := p.getLsbD 0 })

/-- The stack laws: PHA then PLA leaves A and SP as they were, PHP then PLP leaves all seven flags and SP as
they were, and each pair changes only the stack cell SP named before it (R126; D4, log 8; D5, log 9; that B is packed as stored and PLP
restores I, D and B is C13, log 24). -/
def Obligations.StackPairsRoundTrip : Prop :=
  ∀ (s t u : State),
    (exec .pha s = .next t → exec .pla t = .next u →
        u.a = s.a ∧ u.sp = s.sp ∧ StoredAt s u (0x0100 + s.sp.toNat) s.a) ∧
      (exec .php s = .next t → exec .plp t = .next u →
        (u.n = s.n ∧ u.v = s.v ∧ u.b = s.b ∧ u.d = s.d ∧ u.i = s.i ∧ u.z = s.z ∧ u.c = s.c) ∧ u.sp = s.sp ∧
          StoredAt s u (0x0100 + s.sp.toNat) s.packStatus)

/-! ## Logical -/

/-- AND, EOR and ORA: A takes the bitwise result, Z and N follow it, nothing else changes (R130 to R132). -/
def Obligations.LogicalResults : Prop :=
  ∀ (i : Instr) (o : Operand) (s : State) (r : Byte), i.operand = some o → Readable o s →
    (i.mnemonic = .and ∧ r = s.a &&& value o s ∨ i.mnemonic = .eor ∧ r = s.a ^^^ value o s ∨
      i.mnemonic = .ora ∧ r = s.a ||| value o s) →
    exec i s = .next (finished i s (withZN { s with a := r } r))

/-- BIT: N and V are bits 7 and 6 of the operand alone, Z tests `A & M`; A and C are unchanged (R133). -/
def Obligations.BitTestsTheOperand : Prop :=
  ∀ (i : Instr) (o : Operand) (s : State), i.mnemonic = .bit → i.operand = some o → Readable o s →
    exec i s = .next (finished i s
      { s with n := decide ((value o s).toNat ≥ 128), v := decide ((value o s).toNat % 128 ≥ 64),
               z := decide (s.a &&& value o s = 0) })

/-! ## Arithmetic -/

/-- R140: the overflow predicate is the bit formula, and it is true exactly when the signed sum with the
carry-in lies outside -128 to 127. -/
def Obligations.OverflowPredicateIsSignedOverflow : Prop :=
  ∀ (a b : Byte) (cin : Bool),
    vAdd a b (BitVec.ofNat 8 (a.toNat + b.toNat + cin.toNat)) =
        decide (((~~~(a ^^^ b)) &&& (a ^^^ BitVec.ofNat 8 (a.toNat + b.toNat + cin.toNat)) &&& 0x80) ≠ 0) ∧
      (vAdd a b (BitVec.ofNat 8 (a.toNat + b.toNat + cin.toNat)) = true ↔
        a.toInt + b.toInt + cin.toNat < -128 ∨ 127 < a.toInt + b.toInt + cin.toNat)

/-- ADC: C is the unsigned carry, V the signed overflow, Z and N follow the result; binary whatever D holds
(R141, R153; D15). -/
def Obligations.AdcAddsWithCarry : Prop :=
  ∀ (i : Instr) (o : Operand) (s : State), i.mnemonic = .adc → i.operand = some o → Readable o s →
    let sum := s.a.toNat + (value o s).toNat + s.c.toNat
    let signed := s.a.toInt + (value o s).toInt + s.c.toNat
    exec i s = .next (finished i s
      { s with a := BitVec.ofNat 8 sum, c := decide (255 < sum), z := decide (sum % 256 = 0),
               n := decide (128 ≤ sum % 256), v := decide (signed < -128 ∨ 127 < signed) })

/-- SBC: C is the absence of a borrow, V the signed overflow of the subtraction (R142; the spec's decision
D28), Z and N follow the result; binary whatever D holds (D15). -/
def Obligations.SbcSubtractsWithBorrow : Prop :=
  ∀ (i : Instr) (o : Operand) (s : State), i.mnemonic = .sbc → i.operand = some o → Readable o s →
    let diff : Int := (s.a.toNat : Int) - (value o s).toNat - (1 - s.c.toNat)
    let signed : Int := s.a.toInt - (value o s).toInt - (1 - s.c.toNat)
    exec i s = .next (finished i s
      { s with a := BitVec.ofInt 8 diff, c := decide (0 ≤ diff), z := decide (diff % 256 = 0),
               n := decide (128 ≤ diff % 256), v := decide (signed < -128 ∨ 127 < signed) })

/-- R143: Compare writes N, C and Z from `reg - M`, C an unsigned comparison, Z equality; no register, not V,
and the carry-in plays no part. -/
def Obligations.CompareWritesThreeFlags : Prop :=
  ∀ (s : State) (reg m : Byte), s.compareFlags reg m =
    { s with n := decide (128 ≤ (reg.toNat + 256 - m.toNat) % 256), c := decide (m.toNat ≤ reg.toNat),
             z := decide (reg = m) }

/-- CMP, CPX and CPY compare A, X and Y with the operand and change no register (R144 to R146). -/
def Obligations.CompareInstructions : Prop :=
  ∀ (i : Instr) (o : Operand) (s : State) (reg : Byte), i.operand = some o → Readable o s →
    (i.mnemonic = .cmp ∧ reg = s.a ∨ i.mnemonic = .cpx ∧ reg = s.x ∨ i.mnemonic = .cpy ∧ reg = s.y) →
    exec i s = .next (finished i s
      { s with n := (reg - value o s).getLsbD 7, c := decide ((value o s).toNat ≤ reg.toNat),
               z := decide (reg = value o s) })

/-- INC and DEC: the cell takes the operand plus or minus one modulo 256, Z and N follow it; C, V and every
other cell are unchanged (R96, R147, R148). -/
def Obligations.IncrementAndDecrementMemory : Prop :=
  ∀ (i : Instr) (o : Operand) (s : State) (r : Byte), i.operand = some o →
    (effectiveAddress o s).toNat ≤ 0x1FFF →
    (i.mnemonic = .inc ∧ r = BitVec.ofNat 8 ((value o s).toNat + 1) ∨
      i.mnemonic = .dec ∧ r = BitVec.ofNat 8 ((value o s).toNat + 255)) →
    ∃ t, exec i s = .next t ∧ StoredAt s t (effectiveAddress o s).toNat r ∧
      { t with mem := s.mem } = finished i s (withZN s r)

/-- INX, INY, DEX and DEY: the register plus or minus one modulo 256, Z and N follow it (R149 to R152). -/
def Obligations.IncrementAndDecrementRegisters : Prop :=
  ∀ (s : State),
    (let r := BitVec.ofNat 8 (s.x.toNat + 1); exec .inx s = .next (finished .inx s (withZN { s with x := r } r))) ∧
      (let r := BitVec.ofNat 8 (s.y.toNat + 1); exec .iny s = .next (finished .iny s (withZN { s with y := r } r))) ∧
      (let r := BitVec.ofNat 8 (s.x.toNat + 255);
        exec .dex s = .next (finished .dex s (withZN { s with x := r } r))) ∧
      (let r := BitVec.ofNat 8 (s.y.toNat + 255);
        exec .dey s = .next (finished .dey s (withZN { s with y := r } r)))

/-! ## Shifts and rotates -/

/-- ASL A, LSR A, ROL A and ROR A: the result goes to A; C is the bit shifted out, the rotates shift in the old
C, Z and N follow the result, V is unchanged (R91, R160 to R163). -/
def Obligations.AccumulatorShifts : Prop :=
  ∀ (i : Instr) (s : State) (r : Byte) (out : Bool), i.mode = .accumulator →
    shifted i.mnemonic s.a s.c = some (r, out) →
    exec i s = .next (finished i s (withZN { s with a := r, c := out } r))

/-- The shifts on memory: the result goes back to the cell, and no other cell and no register changes (R96,
R160 to R163). -/
def Obligations.MemoryShifts : Prop :=
  ∀ (i : Instr) (o : Operand) (s : State) (r : Byte) (out : Bool), i.operand = some o →
    (effectiveAddress o s).toNat ≤ 0x1FFF → shifted i.mnemonic (value o s) s.c = some (r, out) →
    ∃ t, exec i s = .next t ∧ StoredAt s t (effectiveAddress o s).toNat r ∧
      { t with mem := s.mem } = finished i s (withZN { s with c := out } r)

/-! ## The optional instructions -/

/-- CLC, SEC, CLV and NOP with OPT_FLAG_NOP: C := 0, C := 1, V := 0 and nothing (R13, R171 to R174; the spec's
general knowledge behind D13). -/
def Obligations.OptionalInstructions : Prop :=
  ∀ (s : State), s.params.optFlagNop = true →
    exec .clc s = .next (finished .clc s { s with c := false }) ∧
      exec .sec s = .next (finished .sec s { s with c := true }) ∧
      exec .clv s = .next (finished .clv s { s with v := false }) ∧ exec .nop s = .next (finished .nop s s)

/-- Without OPT_FLAG_NOP the four optional opcodes are absent: fetched, they stop the step, and `exec` of them
raises the same exception; CLI, SEI, CLD and SED are absent under either setting (R170; D13). -/
def Obligations.OptionalOpcodesAbsentWithoutTheOption : Prop :=
  ∀ (s : State) (op : Byte), s.read s.pc.toNat = .ok op →
    (s.params.optFlagNop = false → op ∈ [0x18#8, 0x38#8, 0xB8#8, 0xEA#8] →
        step s = .fault (.unimplementedOpcode op)) ∧
      (op ∈ [0x58#8, 0x78#8, 0xD8#8, 0xF8#8] → step s = .fault (.unimplementedOpcode op)) ∧
      (s.params.optFlagNop = false → exec .clc s = .fault (.unimplementedOpcode 0x18) ∧
        exec .sec s = .fault (.unimplementedOpcode 0x38) ∧ exec .clv s = .fault (.unimplementedOpcode 0xB8) ∧
        exec .nop s = .fault (.unimplementedOpcode 0xEA))

/-! ## The caller -/

/-- A register setter given a value too wide raises InvalidRegisterValue and leaves every register; a value
that fits is what the getter then gives, and every other register, every flag and every cell is as before
(R36, R183; the spec's decision D19). -/
def Obligations.RegisterSetters : Prop :=
  ∀ (free : Nat) (r : Reg) (v : Nat) (s : State),
    (2 ^ r.width ≤ v → hostCall free (.setReg r v) s = (.err (.invalidRegisterValue r v), s)) ∧
      (v < 2 ^ r.width →
        (hostCall free (.setReg r v) s).1 = .nothing ∧
          (hostCall free (.setReg r v) s).2.getReg r = v ∧
          (∀ q, q ≠ r → (hostCall free (.setReg r v) s).2.getReg q = s.getReg q) ∧
          (∀ f, (hostCall free (.setReg r v) s).2.getFlag f = s.getFlag f) ∧
          (∀ a, (hostCall free (.setReg r v) s).2.read a = s.read a))

/-- The state after OutOfRange inside `execute`: memory, registers and flags are unchanged, and PC is one of
PC_entry + 1 to PC_entry + length, whatever the open value (R184; the spec's decision D9, log 6). -/
def Obligations.StateAfterOutOfRange : Prop :=
  ∀ (free : Nat) (op : Byte) (s t : State) (addr : Nat),
    hostCall free (.execute op) s = (.err (.outOfRange addr), t) →
    { t with pc := s.pc } = s ∧
      ∃ d k, lookup s.params.optFlagNop op = some d ∧ 1 ≤ k ∧ k ≤ d.length ∧ t.pc = s.pc + BitVec.ofNat 16 k
end

