-- ==== Sys2Proof/Laws/State.lean ====
section
/-! SUPPORT. What each update of the state does to each field: one lemma per field per update, so that no
proof unfolds a record update. -/

namespace Sys2Proof.Machine

@[simp] theorem State.setA_a (s : State) (v : Byte) : (s.setA v).a = v := rfl
@[simp] theorem State.setA_x (s : State) (v : Byte) : (s.setA v).x = s.x := rfl
@[simp] theorem State.setA_y (s : State) (v : Byte) : (s.setA v).y = s.y := rfl
@[simp] theorem State.setA_sp (s : State) (v : Byte) : (s.setA v).sp = s.sp := rfl
@[simp] theorem State.setA_pc (s : State) (v : Byte) : (s.setA v).pc = s.pc := rfl
@[simp] theorem State.setA_c (s : State) (v : Byte) : (s.setA v).c = s.c := rfl
@[simp] theorem State.setA_z (s : State) (v : Byte) : (s.setA v).z = s.z := rfl
@[simp] theorem State.setA_i (s : State) (v : Byte) : (s.setA v).i = s.i := rfl
@[simp] theorem State.setA_d (s : State) (v : Byte) : (s.setA v).d = s.d := rfl
@[simp] theorem State.setA_b (s : State) (v : Byte) : (s.setA v).b = s.b := rfl
@[simp] theorem State.setA_v (s : State) (v : Byte) : (s.setA v).v = s.v := rfl
@[simp] theorem State.setA_n (s : State) (v : Byte) : (s.setA v).n = s.n := rfl
@[simp] theorem State.setA_mem (s : State) (v : Byte) : (s.setA v).mem = s.mem := rfl
@[simp] theorem State.setA_params (s : State) (v : Byte) : (s.setA v).params = s.params := rfl
@[simp] theorem State.setA_lastCycles (s : State) (v : Byte) : (s.setA v).lastCycles = s.lastCycles := rfl

@[simp] theorem State.setX_a (s : State) (v : Byte) : (s.setX v).a = s.a := rfl
@[simp] theorem State.setX_x (s : State) (v : Byte) : (s.setX v).x = v := rfl
@[simp] theorem State.setX_y (s : State) (v : Byte) : (s.setX v).y = s.y := rfl
@[simp] theorem State.setX_sp (s : State) (v : Byte) : (s.setX v).sp = s.sp := rfl
@[simp] theorem State.setX_pc (s : State) (v : Byte) : (s.setX v).pc = s.pc := rfl
@[simp] theorem State.setX_c (s : State) (v : Byte) : (s.setX v).c = s.c := rfl
@[simp] theorem State.setX_z (s : State) (v : Byte) : (s.setX v).z = s.z := rfl
@[simp] theorem State.setX_i (s : State) (v : Byte) : (s.setX v).i = s.i := rfl
@[simp] theorem State.setX_d (s : State) (v : Byte) : (s.setX v).d = s.d := rfl
@[simp] theorem State.setX_b (s : State) (v : Byte) : (s.setX v).b = s.b := rfl
@[simp] theorem State.setX_v (s : State) (v : Byte) : (s.setX v).v = s.v := rfl
@[simp] theorem State.setX_n (s : State) (v : Byte) : (s.setX v).n = s.n := rfl
@[simp] theorem State.setX_mem (s : State) (v : Byte) : (s.setX v).mem = s.mem := rfl
@[simp] theorem State.setX_params (s : State) (v : Byte) : (s.setX v).params = s.params := rfl
@[simp] theorem State.setX_lastCycles (s : State) (v : Byte) : (s.setX v).lastCycles = s.lastCycles := rfl

@[simp] theorem State.setY_a (s : State) (v : Byte) : (s.setY v).a = s.a := rfl
@[simp] theorem State.setY_x (s : State) (v : Byte) : (s.setY v).x = s.x := rfl
@[simp] theorem State.setY_y (s : State) (v : Byte) : (s.setY v).y = v := rfl
@[simp] theorem State.setY_sp (s : State) (v : Byte) : (s.setY v).sp = s.sp := rfl
@[simp] theorem State.setY_pc (s : State) (v : Byte) : (s.setY v).pc = s.pc := rfl
@[simp] theorem State.setY_c (s : State) (v : Byte) : (s.setY v).c = s.c := rfl
@[simp] theorem State.setY_z (s : State) (v : Byte) : (s.setY v).z = s.z := rfl
@[simp] theorem State.setY_i (s : State) (v : Byte) : (s.setY v).i = s.i := rfl
@[simp] theorem State.setY_d (s : State) (v : Byte) : (s.setY v).d = s.d := rfl
@[simp] theorem State.setY_b (s : State) (v : Byte) : (s.setY v).b = s.b := rfl
@[simp] theorem State.setY_v (s : State) (v : Byte) : (s.setY v).v = s.v := rfl
@[simp] theorem State.setY_n (s : State) (v : Byte) : (s.setY v).n = s.n := rfl
@[simp] theorem State.setY_mem (s : State) (v : Byte) : (s.setY v).mem = s.mem := rfl
@[simp] theorem State.setY_params (s : State) (v : Byte) : (s.setY v).params = s.params := rfl
@[simp] theorem State.setY_lastCycles (s : State) (v : Byte) : (s.setY v).lastCycles = s.lastCycles := rfl

@[simp] theorem State.setSp_a (s : State) (v : Byte) : (s.setSp v).a = s.a := rfl
@[simp] theorem State.setSp_x (s : State) (v : Byte) : (s.setSp v).x = s.x := rfl
@[simp] theorem State.setSp_y (s : State) (v : Byte) : (s.setSp v).y = s.y := rfl
@[simp] theorem State.setSp_sp (s : State) (v : Byte) : (s.setSp v).sp = v := rfl
@[simp] theorem State.setSp_pc (s : State) (v : Byte) : (s.setSp v).pc = s.pc := rfl
@[simp] theorem State.setSp_c (s : State) (v : Byte) : (s.setSp v).c = s.c := rfl
@[simp] theorem State.setSp_z (s : State) (v : Byte) : (s.setSp v).z = s.z := rfl
@[simp] theorem State.setSp_i (s : State) (v : Byte) : (s.setSp v).i = s.i := rfl
@[simp] theorem State.setSp_d (s : State) (v : Byte) : (s.setSp v).d = s.d := rfl
@[simp] theorem State.setSp_b (s : State) (v : Byte) : (s.setSp v).b = s.b := rfl
@[simp] theorem State.setSp_v (s : State) (v : Byte) : (s.setSp v).v = s.v := rfl
@[simp] theorem State.setSp_n (s : State) (v : Byte) : (s.setSp v).n = s.n := rfl
@[simp] theorem State.setSp_mem (s : State) (v : Byte) : (s.setSp v).mem = s.mem := rfl
@[simp] theorem State.setSp_params (s : State) (v : Byte) : (s.setSp v).params = s.params := rfl
@[simp] theorem State.setSp_lastCycles (s : State) (v : Byte) : (s.setSp v).lastCycles = s.lastCycles := rfl

@[simp] theorem State.setPc_a (s : State) (w : Word) : (s.setPc w).a = s.a := rfl
@[simp] theorem State.setPc_x (s : State) (w : Word) : (s.setPc w).x = s.x := rfl
@[simp] theorem State.setPc_y (s : State) (w : Word) : (s.setPc w).y = s.y := rfl
@[simp] theorem State.setPc_sp (s : State) (w : Word) : (s.setPc w).sp = s.sp := rfl
@[simp] theorem State.setPc_pc (s : State) (w : Word) : (s.setPc w).pc = w := rfl
@[simp] theorem State.setPc_c (s : State) (w : Word) : (s.setPc w).c = s.c := rfl
@[simp] theorem State.setPc_z (s : State) (w : Word) : (s.setPc w).z = s.z := rfl
@[simp] theorem State.setPc_i (s : State) (w : Word) : (s.setPc w).i = s.i := rfl
@[simp] theorem State.setPc_d (s : State) (w : Word) : (s.setPc w).d = s.d := rfl
@[simp] theorem State.setPc_b (s : State) (w : Word) : (s.setPc w).b = s.b := rfl
@[simp] theorem State.setPc_v (s : State) (w : Word) : (s.setPc w).v = s.v := rfl
@[simp] theorem State.setPc_n (s : State) (w : Word) : (s.setPc w).n = s.n := rfl
@[simp] theorem State.setPc_mem (s : State) (w : Word) : (s.setPc w).mem = s.mem := rfl
@[simp] theorem State.setPc_params (s : State) (w : Word) : (s.setPc w).params = s.params := rfl
@[simp] theorem State.setPc_lastCycles (s : State) (w : Word) : (s.setPc w).lastCycles = s.lastCycles := rfl

@[simp] theorem State.setC_a (s : State) (f : Bool) : (s.setC f).a = s.a := rfl
@[simp] theorem State.setC_x (s : State) (f : Bool) : (s.setC f).x = s.x := rfl
@[simp] theorem State.setC_y (s : State) (f : Bool) : (s.setC f).y = s.y := rfl
@[simp] theorem State.setC_sp (s : State) (f : Bool) : (s.setC f).sp = s.sp := rfl
@[simp] theorem State.setC_pc (s : State) (f : Bool) : (s.setC f).pc = s.pc := rfl
@[simp] theorem State.setC_c (s : State) (f : Bool) : (s.setC f).c = f := rfl
@[simp] theorem State.setC_z (s : State) (f : Bool) : (s.setC f).z = s.z := rfl
@[simp] theorem State.setC_i (s : State) (f : Bool) : (s.setC f).i = s.i := rfl
@[simp] theorem State.setC_d (s : State) (f : Bool) : (s.setC f).d = s.d := rfl
@[simp] theorem State.setC_b (s : State) (f : Bool) : (s.setC f).b = s.b := rfl
@[simp] theorem State.setC_v (s : State) (f : Bool) : (s.setC f).v = s.v := rfl
@[simp] theorem State.setC_n (s : State) (f : Bool) : (s.setC f).n = s.n := rfl
@[simp] theorem State.setC_mem (s : State) (f : Bool) : (s.setC f).mem = s.mem := rfl
@[simp] theorem State.setC_params (s : State) (f : Bool) : (s.setC f).params = s.params := rfl
@[simp] theorem State.setC_lastCycles (s : State) (f : Bool) : (s.setC f).lastCycles = s.lastCycles := rfl

@[simp] theorem State.setZ_a (s : State) (f : Bool) : (s.setZ f).a = s.a := rfl
@[simp] theorem State.setZ_x (s : State) (f : Bool) : (s.setZ f).x = s.x := rfl
@[simp] theorem State.setZ_y (s : State) (f : Bool) : (s.setZ f).y = s.y := rfl
@[simp] theorem State.setZ_sp (s : State) (f : Bool) : (s.setZ f).sp = s.sp := rfl
@[simp] theorem State.setZ_pc (s : State) (f : Bool) : (s.setZ f).pc = s.pc := rfl
@[simp] theorem State.setZ_c (s : State) (f : Bool) : (s.setZ f).c = s.c := rfl
@[simp] theorem State.setZ_z (s : State) (f : Bool) : (s.setZ f).z = f := rfl
@[simp] theorem State.setZ_i (s : State) (f : Bool) : (s.setZ f).i = s.i := rfl
@[simp] theorem State.setZ_d (s : State) (f : Bool) : (s.setZ f).d = s.d := rfl
@[simp] theorem State.setZ_b (s : State) (f : Bool) : (s.setZ f).b = s.b := rfl
@[simp] theorem State.setZ_v (s : State) (f : Bool) : (s.setZ f).v = s.v := rfl
@[simp] theorem State.setZ_n (s : State) (f : Bool) : (s.setZ f).n = s.n := rfl
@[simp] theorem State.setZ_mem (s : State) (f : Bool) : (s.setZ f).mem = s.mem := rfl
@[simp] theorem State.setZ_params (s : State) (f : Bool) : (s.setZ f).params = s.params := rfl
@[simp] theorem State.setZ_lastCycles (s : State) (f : Bool) : (s.setZ f).lastCycles = s.lastCycles := rfl

@[simp] theorem State.setI_a (s : State) (f : Bool) : (s.setI f).a = s.a := rfl
@[simp] theorem State.setI_x (s : State) (f : Bool) : (s.setI f).x = s.x := rfl
@[simp] theorem State.setI_y (s : State) (f : Bool) : (s.setI f).y = s.y := rfl
@[simp] theorem State.setI_sp (s : State) (f : Bool) : (s.setI f).sp = s.sp := rfl
@[simp] theorem State.setI_pc (s : State) (f : Bool) : (s.setI f).pc = s.pc := rfl
@[simp] theorem State.setI_c (s : State) (f : Bool) : (s.setI f).c = s.c := rfl
@[simp] theorem State.setI_z (s : State) (f : Bool) : (s.setI f).z = s.z := rfl
@[simp] theorem State.setI_i (s : State) (f : Bool) : (s.setI f).i = f := rfl
@[simp] theorem State.setI_d (s : State) (f : Bool) : (s.setI f).d = s.d := rfl
@[simp] theorem State.setI_b (s : State) (f : Bool) : (s.setI f).b = s.b := rfl
@[simp] theorem State.setI_v (s : State) (f : Bool) : (s.setI f).v = s.v := rfl
@[simp] theorem State.setI_n (s : State) (f : Bool) : (s.setI f).n = s.n := rfl
@[simp] theorem State.setI_mem (s : State) (f : Bool) : (s.setI f).mem = s.mem := rfl
@[simp] theorem State.setI_params (s : State) (f : Bool) : (s.setI f).params = s.params := rfl
@[simp] theorem State.setI_lastCycles (s : State) (f : Bool) : (s.setI f).lastCycles = s.lastCycles := rfl

@[simp] theorem State.setD_a (s : State) (f : Bool) : (s.setD f).a = s.a := rfl
@[simp] theorem State.setD_x (s : State) (f : Bool) : (s.setD f).x = s.x := rfl
@[simp] theorem State.setD_y (s : State) (f : Bool) : (s.setD f).y = s.y := rfl
@[simp] theorem State.setD_sp (s : State) (f : Bool) : (s.setD f).sp = s.sp := rfl
@[simp] theorem State.setD_pc (s : State) (f : Bool) : (s.setD f).pc = s.pc := rfl
@[simp] theorem State.setD_c (s : State) (f : Bool) : (s.setD f).c = s.c := rfl
@[simp] theorem State.setD_z (s : State) (f : Bool) : (s.setD f).z = s.z := rfl
@[simp] theorem State.setD_i (s : State) (f : Bool) : (s.setD f).i = s.i := rfl
@[simp] theorem State.setD_d (s : State) (f : Bool) : (s.setD f).d = f := rfl
@[simp] theorem State.setD_b (s : State) (f : Bool) : (s.setD f).b = s.b := rfl
@[simp] theorem State.setD_v (s : State) (f : Bool) : (s.setD f).v = s.v := rfl
@[simp] theorem State.setD_n (s : State) (f : Bool) : (s.setD f).n = s.n := rfl
@[simp] theorem State.setD_mem (s : State) (f : Bool) : (s.setD f).mem = s.mem := rfl
@[simp] theorem State.setD_params (s : State) (f : Bool) : (s.setD f).params = s.params := rfl
@[simp] theorem State.setD_lastCycles (s : State) (f : Bool) : (s.setD f).lastCycles = s.lastCycles := rfl

@[simp] theorem State.setB_a (s : State) (f : Bool) : (s.setB f).a = s.a := rfl
@[simp] theorem State.setB_x (s : State) (f : Bool) : (s.setB f).x = s.x := rfl
@[simp] theorem State.setB_y (s : State) (f : Bool) : (s.setB f).y = s.y := rfl
@[simp] theorem State.setB_sp (s : State) (f : Bool) : (s.setB f).sp = s.sp := rfl
@[simp] theorem State.setB_pc (s : State) (f : Bool) : (s.setB f).pc = s.pc := rfl
@[simp] theorem State.setB_c (s : State) (f : Bool) : (s.setB f).c = s.c := rfl
@[simp] theorem State.setB_z (s : State) (f : Bool) : (s.setB f).z = s.z := rfl
@[simp] theorem State.setB_i (s : State) (f : Bool) : (s.setB f).i = s.i := rfl
@[simp] theorem State.setB_d (s : State) (f : Bool) : (s.setB f).d = s.d := rfl
@[simp] theorem State.setB_b (s : State) (f : Bool) : (s.setB f).b = f := rfl
@[simp] theorem State.setB_v (s : State) (f : Bool) : (s.setB f).v = s.v := rfl
@[simp] theorem State.setB_n (s : State) (f : Bool) : (s.setB f).n = s.n := rfl
@[simp] theorem State.setB_mem (s : State) (f : Bool) : (s.setB f).mem = s.mem := rfl
@[simp] theorem State.setB_params (s : State) (f : Bool) : (s.setB f).params = s.params := rfl
@[simp] theorem State.setB_lastCycles (s : State) (f : Bool) : (s.setB f).lastCycles = s.lastCycles := rfl

@[simp] theorem State.setV_a (s : State) (f : Bool) : (s.setV f).a = s.a := rfl
@[simp] theorem State.setV_x (s : State) (f : Bool) : (s.setV f).x = s.x := rfl
@[simp] theorem State.setV_y (s : State) (f : Bool) : (s.setV f).y = s.y := rfl
@[simp] theorem State.setV_sp (s : State) (f : Bool) : (s.setV f).sp = s.sp := rfl
@[simp] theorem State.setV_pc (s : State) (f : Bool) : (s.setV f).pc = s.pc := rfl
@[simp] theorem State.setV_c (s : State) (f : Bool) : (s.setV f).c = s.c := rfl
@[simp] theorem State.setV_z (s : State) (f : Bool) : (s.setV f).z = s.z := rfl
@[simp] theorem State.setV_i (s : State) (f : Bool) : (s.setV f).i = s.i := rfl
@[simp] theorem State.setV_d (s : State) (f : Bool) : (s.setV f).d = s.d := rfl
@[simp] theorem State.setV_b (s : State) (f : Bool) : (s.setV f).b = s.b := rfl
@[simp] theorem State.setV_v (s : State) (f : Bool) : (s.setV f).v = f := rfl
@[simp] theorem State.setV_n (s : State) (f : Bool) : (s.setV f).n = s.n := rfl
@[simp] theorem State.setV_mem (s : State) (f : Bool) : (s.setV f).mem = s.mem := rfl
@[simp] theorem State.setV_params (s : State) (f : Bool) : (s.setV f).params = s.params := rfl
@[simp] theorem State.setV_lastCycles (s : State) (f : Bool) : (s.setV f).lastCycles = s.lastCycles := rfl

@[simp] theorem State.setN_a (s : State) (f : Bool) : (s.setN f).a = s.a := rfl
@[simp] theorem State.setN_x (s : State) (f : Bool) : (s.setN f).x = s.x := rfl
@[simp] theorem State.setN_y (s : State) (f : Bool) : (s.setN f).y = s.y := rfl
@[simp] theorem State.setN_sp (s : State) (f : Bool) : (s.setN f).sp = s.sp := rfl
@[simp] theorem State.setN_pc (s : State) (f : Bool) : (s.setN f).pc = s.pc := rfl
@[simp] theorem State.setN_c (s : State) (f : Bool) : (s.setN f).c = s.c := rfl
@[simp] theorem State.setN_z (s : State) (f : Bool) : (s.setN f).z = s.z := rfl
@[simp] theorem State.setN_i (s : State) (f : Bool) : (s.setN f).i = s.i := rfl
@[simp] theorem State.setN_d (s : State) (f : Bool) : (s.setN f).d = s.d := rfl
@[simp] theorem State.setN_b (s : State) (f : Bool) : (s.setN f).b = s.b := rfl
@[simp] theorem State.setN_v (s : State) (f : Bool) : (s.setN f).v = s.v := rfl
@[simp] theorem State.setN_n (s : State) (f : Bool) : (s.setN f).n = f := rfl
@[simp] theorem State.setN_mem (s : State) (f : Bool) : (s.setN f).mem = s.mem := rfl
@[simp] theorem State.setN_params (s : State) (f : Bool) : (s.setN f).params = s.params := rfl
@[simp] theorem State.setN_lastCycles (s : State) (f : Bool) : (s.setN f).lastCycles = s.lastCycles := rfl

@[simp] theorem State.incrementSP_a (s : State) : (s.incrementSP).a = s.a := rfl
@[simp] theorem State.incrementSP_x (s : State) : (s.incrementSP).x = s.x := rfl
@[simp] theorem State.incrementSP_y (s : State) : (s.incrementSP).y = s.y := rfl
@[simp] theorem State.incrementSP_sp (s : State) : (s.incrementSP).sp = s.sp + 1 := rfl
@[simp] theorem State.incrementSP_pc (s : State) : (s.incrementSP).pc = s.pc := rfl
@[simp] theorem State.incrementSP_c (s : State) : (s.incrementSP).c = s.c := rfl
@[simp] theorem State.incrementSP_z (s : State) : (s.incrementSP).z = s.z := rfl
@[simp] theorem State.incrementSP_i (s : State) : (s.incrementSP).i = s.i := rfl
@[simp] theorem State.incrementSP_d (s : State) : (s.incrementSP).d = s.d := rfl
@[simp] theorem State.incrementSP_b (s : State) : (s.incrementSP).b = s.b := rfl
@[simp] theorem State.incrementSP_v (s : State) : (s.incrementSP).v = s.v := rfl
@[simp] theorem State.incrementSP_n (s : State) : (s.incrementSP).n = s.n := rfl
@[simp] theorem State.incrementSP_mem (s : State) : (s.incrementSP).mem = s.mem := rfl
@[simp] theorem State.incrementSP_params (s : State) : (s.incrementSP).params = s.params := rfl
@[simp] theorem State.incrementSP_lastCycles (s : State) : (s.incrementSP).lastCycles = s.lastCycles := rfl

@[simp] theorem State.decrementSP_a (s : State) : (s.decrementSP).a = s.a := rfl
@[simp] theorem State.decrementSP_x (s : State) : (s.decrementSP).x = s.x := rfl
@[simp] theorem State.decrementSP_y (s : State) : (s.decrementSP).y = s.y := rfl
@[simp] theorem State.decrementSP_sp (s : State) : (s.decrementSP).sp = s.sp - 1 := rfl
@[simp] theorem State.decrementSP_pc (s : State) : (s.decrementSP).pc = s.pc := rfl
@[simp] theorem State.decrementSP_c (s : State) : (s.decrementSP).c = s.c := rfl
@[simp] theorem State.decrementSP_z (s : State) : (s.decrementSP).z = s.z := rfl
@[simp] theorem State.decrementSP_i (s : State) : (s.decrementSP).i = s.i := rfl
@[simp] theorem State.decrementSP_d (s : State) : (s.decrementSP).d = s.d := rfl
@[simp] theorem State.decrementSP_b (s : State) : (s.decrementSP).b = s.b := rfl
@[simp] theorem State.decrementSP_v (s : State) : (s.decrementSP).v = s.v := rfl
@[simp] theorem State.decrementSP_n (s : State) : (s.decrementSP).n = s.n := rfl
@[simp] theorem State.decrementSP_mem (s : State) : (s.decrementSP).mem = s.mem := rfl
@[simp] theorem State.decrementSP_params (s : State) : (s.decrementSP).params = s.params := rfl
@[simp] theorem State.decrementSP_lastCycles (s : State) : (s.decrementSP).lastCycles = s.lastCycles := rfl

@[simp] theorem State.clear_a (s : State) : (s.clear).a = s.a := rfl
@[simp] theorem State.clear_x (s : State) : (s.clear).x = s.x := rfl
@[simp] theorem State.clear_y (s : State) : (s.clear).y = s.y := rfl
@[simp] theorem State.clear_sp (s : State) : (s.clear).sp = s.sp := rfl
@[simp] theorem State.clear_pc (s : State) : (s.clear).pc = s.pc := rfl
@[simp] theorem State.clear_c (s : State) : (s.clear).c = s.c := rfl
@[simp] theorem State.clear_z (s : State) : (s.clear).z = s.z := rfl
@[simp] theorem State.clear_i (s : State) : (s.clear).i = s.i := rfl
@[simp] theorem State.clear_d (s : State) : (s.clear).d = s.d := rfl
@[simp] theorem State.clear_b (s : State) : (s.clear).b = s.b := rfl
@[simp] theorem State.clear_v (s : State) : (s.clear).v = s.v := rfl
@[simp] theorem State.clear_n (s : State) : (s.clear).n = s.n := rfl
@[simp] theorem State.clear_mem (s : State) : (s.clear).mem = [] := rfl
@[simp] theorem State.clear_params (s : State) : (s.clear).params = s.params := rfl
@[simp] theorem State.clear_lastCycles (s : State) : (s.clear).lastCycles = s.lastCycles := rfl

@[simp] theorem State.push_a (s : State) (v : Byte) : (s.push v).a = s.a := rfl
@[simp] theorem State.push_x (s : State) (v : Byte) : (s.push v).x = s.x := rfl
@[simp] theorem State.push_y (s : State) (v : Byte) : (s.push v).y = s.y := rfl
@[simp] theorem State.push_sp (s : State) (v : Byte) : (s.push v).sp = s.sp - 1 := rfl
@[simp] theorem State.push_pc (s : State) (v : Byte) : (s.push v).pc = s.pc := rfl
@[simp] theorem State.push_c (s : State) (v : Byte) : (s.push v).c = s.c := rfl
@[simp] theorem State.push_z (s : State) (v : Byte) : (s.push v).z = s.z := rfl
@[simp] theorem State.push_i (s : State) (v : Byte) : (s.push v).i = s.i := rfl
@[simp] theorem State.push_d (s : State) (v : Byte) : (s.push v).d = s.d := rfl
@[simp] theorem State.push_b (s : State) (v : Byte) : (s.push v).b = s.b := rfl
@[simp] theorem State.push_v (s : State) (v : Byte) : (s.push v).v = s.v := rfl
@[simp] theorem State.push_n (s : State) (v : Byte) : (s.push v).n = s.n := rfl
@[simp] theorem State.push_mem (s : State) (v : Byte) : (s.push v).mem = s.mem.store (cellIndex (stackAddr s.sp)) v := rfl
@[simp] theorem State.push_params (s : State) (v : Byte) : (s.push v).params = s.params := rfl
@[simp] theorem State.push_lastCycles (s : State) (v : Byte) : (s.push v).lastCycles = s.lastCycles := rfl

@[simp] theorem State.pull_a (s : State) : s.pull.2.a = s.a := rfl
@[simp] theorem State.pull_x (s : State) : s.pull.2.x = s.x := rfl
@[simp] theorem State.pull_y (s : State) : s.pull.2.y = s.y := rfl
@[simp] theorem State.pull_sp (s : State) : s.pull.2.sp = s.sp + 1 := rfl
@[simp] theorem State.pull_pc (s : State) : s.pull.2.pc = s.pc := rfl
@[simp] theorem State.pull_c (s : State) : s.pull.2.c = s.c := rfl
@[simp] theorem State.pull_z (s : State) : s.pull.2.z = s.z := rfl
@[simp] theorem State.pull_i (s : State) : s.pull.2.i = s.i := rfl
@[simp] theorem State.pull_d (s : State) : s.pull.2.d = s.d := rfl
@[simp] theorem State.pull_b (s : State) : s.pull.2.b = s.b := rfl
@[simp] theorem State.pull_v (s : State) : s.pull.2.v = s.v := rfl
@[simp] theorem State.pull_n (s : State) : s.pull.2.n = s.n := rfl
@[simp] theorem State.pull_mem (s : State) : s.pull.2.mem = s.mem := rfl
@[simp] theorem State.pull_params (s : State) : s.pull.2.params = s.params := rfl
@[simp] theorem State.pull_lastCycles (s : State) : s.pull.2.lastCycles = s.lastCycles := rfl
@[simp] theorem State.pull_byte (s : State) : s.pull.1 = s.mem.cell (cellIndex (stackAddr (s.sp + 1))) := rfl

@[simp] theorem State.retire_a (s : State) (op : Byte) (len : Nat) (crossed : Bool) : (s.retire op len crossed).a = s.a := rfl
@[simp] theorem State.retire_x (s : State) (op : Byte) (len : Nat) (crossed : Bool) : (s.retire op len crossed).x = s.x := rfl
@[simp] theorem State.retire_y (s : State) (op : Byte) (len : Nat) (crossed : Bool) : (s.retire op len crossed).y = s.y := rfl
@[simp] theorem State.retire_sp (s : State) (op : Byte) (len : Nat) (crossed : Bool) : (s.retire op len crossed).sp = s.sp := rfl
@[simp] theorem State.retire_pc (s : State) (op : Byte) (len : Nat) (crossed : Bool) : (s.retire op len crossed).pc = s.pc + BitVec.ofNat 16 len := rfl
@[simp] theorem State.retire_c (s : State) (op : Byte) (len : Nat) (crossed : Bool) : (s.retire op len crossed).c = s.c := rfl
@[simp] theorem State.retire_z (s : State) (op : Byte) (len : Nat) (crossed : Bool) : (s.retire op len crossed).z = s.z := rfl
@[simp] theorem State.retire_i (s : State) (op : Byte) (len : Nat) (crossed : Bool) : (s.retire op len crossed).i = s.i := rfl
@[simp] theorem State.retire_d (s : State) (op : Byte) (len : Nat) (crossed : Bool) : (s.retire op len crossed).d = s.d := rfl
@[simp] theorem State.retire_b (s : State) (op : Byte) (len : Nat) (crossed : Bool) : (s.retire op len crossed).b = s.b := rfl
@[simp] theorem State.retire_v (s : State) (op : Byte) (len : Nat) (crossed : Bool) : (s.retire op len crossed).v = s.v := rfl
@[simp] theorem State.retire_n (s : State) (op : Byte) (len : Nat) (crossed : Bool) : (s.retire op len crossed).n = s.n := rfl
@[simp] theorem State.retire_mem (s : State) (op : Byte) (len : Nat) (crossed : Bool) : (s.retire op len crossed).mem = s.mem := rfl
@[simp] theorem State.retire_params (s : State) (op : Byte) (len : Nat) (crossed : Bool) : (s.retire op len crossed).params = s.params := rfl
@[simp] theorem State.retire_lastCycles (s : State) (op : Byte) (len : Nat) (crossed : Bool) : (s.retire op len crossed).lastCycles = cyclesOf s.params op crossed := rfl

/-! ## The cycle table -/

/-- With no entry of its own in the parameter, an opcode has the default entry (R14). -/
theorem cycleEntry_of_find_none {p : Params} {op : Byte} (h : p.cycles.find? (fun e => e.1 == op) = none) :
    cycleEntry p op = defaultCycles op := by
  simp [cycleEntry, h]

/-- An opcode's first entry in the parameter takes the place of the default in both parts (log 4). -/
theorem cycleEntry_of_find_some {p : Params} {op : Byte} {e : Byte × CycleEntry}
    (h : p.cycles.find? (fun e => e.1 == op) = some e) : cycleEntry p op = e.2 := by
  simp [cycleEntry, h]

/-- Without a page crossing the count is the base count (R94). -/
theorem cyclesOf_not_crossed (p : Params) (op : Byte) : cyclesOf p op false = (cycleEntry p op).base := by
  simp [cyclesOf]

end Sys2Proof.Machine
end

