-- ==== Sys2Proof/Laws/Memory.lean ====
section
/-! SUPPORT. The laws of memory: what a cell holds after each operation, that every operation keeps the
canonical form, and that the accesses the spec says never fault do not. -/

namespace Sys2Proof.Machine

theorem cellIndex_eq_mod (addr : Nat) : cellIndex addr = addr % 2048 := by
  have h := Nat.and_two_pow_sub_one_eq_mod addr 11
  simpa [cellIndex, Config.mirrorMask] using h

theorem cellIndex_lt (addr : Nat) : cellIndex addr < Config.ramSize := by
  rw [cellIndex_eq_mod]
  exact Nat.mod_lt _ (by decide)

/-! ## What a cell holds -/

@[simp] theorem Memory.cell_nil (k : Nat) : Memory.cell [] k = 0 := rfl

theorem Memory.cell_cons (p : Host.Cell) (m : Memory) (k : Nat) :
    Memory.cell (p :: m) k = if p.1 = k then p.2 else Memory.cell m k := rfl

theorem Memory.cell_erase (m : Memory) (k j : Nat) :
    (m.erase k).cell j = if j = k then 0 else m.cell j := by
  induction m with
  | nil => simp [Memory.erase]
  | cons p rest ih =>
    by_cases hp : p.1 = k
    · have : Memory.erase (p :: rest) k = Memory.erase rest k := by simp [Memory.erase, hp]
      rw [this, ih, Memory.cell_cons]
      by_cases hj : j = k
      · simp [hj]
      · simp [hj, show p.1 ≠ j by omega]
    · have : Memory.erase (p :: rest) k = p :: Memory.erase rest k := by simp [Memory.erase, hp]
      rw [this, Memory.cell_cons, ih, Memory.cell_cons]
      by_cases hj : p.1 = j
      · simp [hj, show ¬ j = k by omega]
      · simp [hj]

theorem Memory.cell_insert (m : Memory) (k j : Nat) (v : Byte) (hm : m.cell k = 0 → ∀ p ∈ m, p.1 ≠ k)
    (hk : m.cell k = 0) : (m.insert k v).cell j = if j = k then v else m.cell j := by
  have hfree := hm hk
  clear hm hk
  induction m with
  | nil => simp [Memory.insert, Memory.cell_cons, eq_comm]
  | cons p rest ih =>
    have hp : p.1 ≠ k := hfree p (by simp)
    have ih := ih (fun q hq => hfree q (by simp [hq]))
    by_cases hlt : k < p.1
    · have : Memory.insert (p :: rest) k v = (k, v) :: p :: rest := by simp [Memory.insert, hlt]
      rw [this, Memory.cell_cons]
      simp [eq_comm]
    · have : Memory.insert (p :: rest) k v = p :: Memory.insert rest k v := by simp [Memory.insert, hlt]
      rw [this, Memory.cell_cons, ih, Memory.cell_cons]
      by_cases hj : p.1 = j
      · simp [hj, show ¬ j = k by omega]
      · simp [hj]

/-- The law of a store: the cell stored to holds the value, every other cell is as it was. It needs no
premise on the list. -/
theorem Memory.cell_store (m : Memory) (k j : Nat) (v : Byte) :
    (m.store k v).cell j = if j = k then v else m.cell j := by
  unfold Memory.store
  split
  · next h => simpa [h] using m.cell_erase k j
  · rw [Memory.cell_insert, Memory.cell_erase]
    · by_cases hj : j = k <;> simp [hj]
    · intro _ p hp
      simpa using (List.mem_filter.mp hp).2
    · simp [Memory.cell_erase]

theorem Memory.cell_store_self (m : Memory) (k : Nat) (v : Byte) : (m.store k v).cell k = v := by
  simp [Memory.cell_store]

theorem Memory.cell_store_other (m : Memory) {k j : Nat} (v : Byte) (h : j ≠ k) :
    (m.store k v).cell j = m.cell j := by
  simp [Memory.cell_store, h]

/-! ## The canonical form -/

theorem Memory.wf_nil : Memory.wf [] := by simp [Memory.wf]

theorem Memory.wf_erase {m : Memory} (k : Nat) (h : m.wf) : (m.erase k).wf :=
  ⟨h.1.filter _, fun p hp => h.2 p (List.mem_filter.mp hp).1⟩

theorem Memory.mem_insert {m : Memory} {k : Nat} {v : Byte} {q : Host.Cell} (hq : q ∈ m.insert k v) :
    q = (k, v) ∨ q ∈ m := by
  induction m with
  | nil => simpa [Memory.insert] using hq
  | cons p rest ih =>
    unfold Memory.insert at hq
    split at hq
    · simpa using hq
    · rcases List.mem_cons.mp hq with rfl | hq
      · simp
      · rcases ih hq with rfl | h
        · simp
        · simp [h]

theorem Memory.wf_insert {m : Memory} {k : Nat} {v : Byte} (h : m.wf) (hfree : ∀ p ∈ m, p.1 ≠ k)
    (hk : k < Config.ramSize) (hv : v ≠ 0) : (m.insert k v).wf := by
  induction m with
  | nil => exact ⟨List.pairwise_singleton _ _, by simpa [Memory.insert, hk] using hv⟩
  | cons p rest ih =>
    have hp : p.1 ≠ k := hfree p (by simp)
    obtain ⟨hord, hall⟩ := h
    obtain ⟨hhead, htail⟩ := List.pairwise_cons.mp hord
    have hrest : Memory.wf rest := ⟨htail, fun q hq => hall q (by simp [hq])⟩
    have ih := ih hrest (fun q hq => hfree q (by simp [hq]))
    unfold Memory.insert
    split
    · next hlt =>
      refine ⟨List.pairwise_cons.mpr ⟨fun q hq => ?_, hord⟩, fun q hq => ?_⟩
      · rcases List.mem_cons.mp hq with rfl | hq
        · exact hlt
        · exact hlt.trans (hhead q hq)
      · rcases List.mem_cons.mp hq with rfl | hq
        · exact ⟨hk, hv⟩
        · exact hall q hq
    · next hlt =>
      refine ⟨List.pairwise_cons.mpr ⟨fun q hq => ?_, ih.1⟩, fun q hq => ?_⟩
      · rcases Memory.mem_insert hq with rfl | hq
        · show p.1 < k
          omega
        · exact hhead q hq
      · rcases List.mem_cons.mp hq with rfl | hq
        · exact hall q (by simp)
        · exact ih.2 q hq

/-- A store to a cell keeps the canonical form. -/
theorem Memory.wf_store {m : Memory} {k : Nat} (v : Byte) (h : m.wf) (hk : k < Config.ramSize) :
    (m.store k v).wf := by
  unfold Memory.store
  split
  · exact Memory.wf_erase k h
  · next hv =>
    exact Memory.wf_insert (Memory.wf_erase k h) (fun p hp => by simpa using (List.mem_filter.mp hp).2) hk hv

theorem State.write_wf {s t : State} {addr : Nat} {v : Byte} (h : s.mem.wf) (ht : s.write addr v = .ok t) :
    t.mem.wf := by
  unfold State.write at ht
  split at ht
  · cases ht
    exact Memory.wf_store v h (cellIndex_lt addr)
  · cases ht

theorem State.push_wf {s : State} (v : Byte) (h : s.mem.wf) : (s.push v).mem.wf :=
  Memory.wf_store v h (cellIndex_lt _)

theorem State.clear_wf (s : State) : s.clear.mem.wf := Memory.wf_nil

theorem State.reset_wf : State.reset.mem.wf := Memory.wf_nil

/-! ## Reads and writes -/

theorem State.read_backed {s : State} {addr : Nat} (h : addr ≤ Config.windowTop) :
    s.read addr = .ok (s.mem.cell (cellIndex addr)) := by
  simp [State.read, h]

theorem State.read_unbacked {s : State} {addr : Nat} (h : Config.windowTop < addr) :
    s.read addr = .error (.outOfRange addr) := by
  simp [State.read, Nat.not_le.mpr h]

theorem State.write_backed {s : State} {addr : Nat} (v : Byte) (h : addr ≤ Config.windowTop) :
    s.write addr v = .ok { s with mem := s.mem.store (cellIndex addr) v } := by
  simp [State.write, h]

theorem State.write_unbacked {s : State} {addr : Nat} (v : Byte) (h : Config.windowTop < addr) :
    s.write addr v = .error (.outOfRange addr) := by
  simp [State.write, Nat.not_le.mpr h]

/-- Everything a read can do. -/
theorem State.read_cases (s : State) (addr : Nat) :
    (addr ≤ Config.windowTop ∧ s.read addr = .ok (s.mem.cell (cellIndex addr))) ∨
      (Config.windowTop < addr ∧ s.read addr = .error (.outOfRange addr)) := by
  rcases Nat.lt_or_ge Config.windowTop addr with h | h
  · exact .inr ⟨h, State.read_unbacked h⟩
  · exact .inl ⟨h, State.read_backed h⟩

/-- Everything a write can do. -/
theorem State.write_cases (s : State) (addr : Nat) (v : Byte) :
    (addr ≤ Config.windowTop ∧ s.write addr v = .ok { s with mem := s.mem.store (cellIndex addr) v }) ∨
      (Config.windowTop < addr ∧ s.write addr v = .error (.outOfRange addr)) := by
  rcases Nat.lt_or_ge Config.windowTop addr with h | h
  · exact .inr ⟨h, State.write_unbacked v h⟩
  · exact .inl ⟨h, State.write_backed v h⟩

theorem stackAddr_le (sp : Byte) : stackAddr sp ≤ 0x01FF := by
  have := sp.isLt
  unfold stackAddr Config.stackBase
  omega

/-- A stack byte's address is backed, so a push's write never faults (R120). -/
theorem State.write_stack (s : State) (v : Byte) :
    s.write (stackAddr s.sp) v = .ok { s with mem := s.mem.store (cellIndex (stackAddr s.sp)) v } :=
  State.write_backed v ((stackAddr_le s.sp).trans (by decide))

/-- A pull's read never faults, and it is the byte the pull gives (R121). -/
theorem State.read_pull (s : State) : s.incrementSP.read (stackAddr s.incrementSP.sp) = .ok s.pull.1 :=
  State.read_backed ((stackAddr_le _).trans (by decide))

end Sys2Proof.Machine
end

