-- ==== Sys2Proof/Laws/Operands.lean ====
section
/-! SUPPORT. What the resolvers and the four shapes of an instruction can do, said once. -/

namespace Sys2Proof.Machine

/-- A pointer byte's address is backed, so an indirect mode's pointer reads never fault (R89, R90, R182). -/
theorem State.read_zeroPage (s : State) (p : Byte) : s.read p.toNat = .ok (s.zeroPage p) :=
  State.read_backed (by have := p.isLt; simp only [Config.windowTop]; omega)

theorem joinBytes_toNat (hi lo : Byte) : (joinBytes hi lo).toNat = lo.toNat + hi.toNat * 256 := by
  have := hi.isLt
  have := lo.isLt
  simp [joinBytes]
  omega

theorem joinBytes_hi_lo (w : Word) : joinBytes (hiByte w) (loByte w) = w := by
  apply BitVec.eq_of_toNat_eq
  have := w.isLt
  rw [joinBytes_toNat]
  simp [hiByte, loByte]
  omega

/-- Everything loading an operand can do: an Immediate gives its byte, any other mode reads at EA. -/
theorem loadOperand_cases (o : Operand) (s : State) :
    (∃ v, o = .imm v ∧ loadOperand o s = .ok v) ∨
      ((∀ v, o ≠ .imm v) ∧ loadOperand o s = s.read (effectiveAddress o s).toNat) := by
  cases o <;> simp [loadOperand]

/-- What a read-class instruction has done when it answers a next state. -/
theorem execRead_next {op : Byte} {o : Operand} {f : State → Byte → State} {s t : State}
    (h : execRead op o f s = .next t) :
    ∃ m, loadOperand o s = .ok m ∧ t = (f s m).retire op o.mode.length (pageCrossed o s) := by
  unfold execRead at h
  split at h
  · cases h
  · next m hm => exact ⟨m, hm, by cases h; rfl⟩

theorem execRead_of_load {op : Byte} {o : Operand} {f : State → Byte → State} {s : State} {m : Byte}
    (h : loadOperand o s = .ok m) :
    execRead op o f s = .next ((f s m).retire op o.mode.length (pageCrossed o s)) := by
  simp [execRead, h]

/-- What a store has done when it answers a next state. -/
theorem execStore_next {op : Byte} {o : Operand} {v : Byte} {s t : State}
    (h : execStore op o v s = .next t) :
    (effectiveAddress o s).toNat ≤ Config.windowTop ∧
      t = { s with mem := s.mem.store (cellIndex (effectiveAddress o s).toNat) v }.retire op o.mode.length
        (pageCrossed o s) := by
  unfold execStore at h
  rcases s.write_cases (effectiveAddress o s).toNat v with ⟨ha, hw⟩ | ⟨_, hw⟩ <;> rw [hw] at h <;> cases h
  exact ⟨ha, rfl⟩

theorem execStore_backed {op : Byte} {o : Operand} {v : Byte} {s : State}
    (h : (effectiveAddress o s).toNat ≤ Config.windowTop) :
    execStore op o v s =
      .next ({ s with mem := s.mem.store (cellIndex (effectiveAddress o s).toNat) v }.retire op o.mode.length
        (pageCrossed o s)) := by
  simp [execStore, State.write_backed v h]

/-- What a read-modify-write instruction has done when it answers a next state. -/
theorem execModify_next {op : Byte} {o : Operand} {result : State → Byte → Byte}
    {flags : State → Byte → State} {s t : State} (h : execModify op o result flags s = .next t) :
    ∃ m, loadOperand o s = .ok m ∧ (effectiveAddress o s).toNat ≤ Config.windowTop ∧
      t = (flags { s with mem := s.mem.store (cellIndex (effectiveAddress o s).toNat) (result s m) } m).retire
        op o.mode.length (pageCrossed o s) := by
  unfold execModify at h
  split at h
  · cases h
  · next m hm =>
    rcases s.write_cases (effectiveAddress o s).toNat (result s m) with ⟨ha, hw⟩ | ⟨_, hw⟩ <;>
      rw [hw] at h <;> cases h
    exact ⟨m, hm, ha, rfl⟩

theorem execModify_of_load {op : Byte} {o : Operand} {result : State → Byte → Byte}
    {flags : State → Byte → State} {s : State} {m : Byte} (h : loadOperand o s = .ok m)
    (ha : (effectiveAddress o s).toNat ≤ Config.windowTop) :
    execModify op o result flags s =
      .next ((flags { s with mem := s.mem.store (cellIndex (effectiveAddress o s).toNat) (result s m) } m).retire
        op o.mode.length (pageCrossed o s)) := by
  simp [execModify, h, State.write_backed _ ha]

/-- An instruction of one byte always answers a next state. -/
theorem execSingle_next {op : Byte} {after t : State} :
    execSingle op after = .next t ↔ t = after.retire op 1 false := by
  simp [execSingle, eq_comm]

/-- An optional instruction answers a next state exactly when the option is on. -/
theorem execOptional_next {op : Byte} {after s t : State} :
    execOptional op after s = .next t ↔ s.params.optFlagNop = true ∧ t = after.retire op 1 false := by
  unfold execOptional raise
  split
  · next h => rw [execSingle_next]; simp [h]
  · next h => simp [h]

end Sys2Proof.Machine
end

