-- ==== Sys2Proof/Laws/Decode.lean ====
section
/-! SUPPORT. What the decoder can answer, and what it means that a row of the table builds an instruction. -/

namespace Sys2Proof

/-- `i` is what a form builds from the operand bytes `i` encodes with. -/
def Form.Builds (f : Form) (i : Instr) : Prop :=
  match f with
  | .single j => j = i ∧ encode i = [i.opcode]
  | .byte g => ∃ b, g b = i ∧ encode i = [i.opcode, b]
  | .word g => ∃ w, g w = i ∧ encode i = [i.opcode, loByte w, hiByte w]

/-- The table gives an optional row only with OPT_FLAG_NOP, and every other row always (R63, R170). -/
theorem lookup_cases (opt : Bool) (op : Byte) :
    lookup opt op = lookup true op ∨ (opt = false ∧ lookup opt op = none) := by
  unfold lookup
  cases opt with
  | true => exact .inl rfl
  | false =>
    split
    · next d _ => by_cases h : d.mnemonic.optional = true <;> simp [h]
    · simp

set_option maxRecDepth 20000 in
/-- No two rows have the same resolver and operation. -/
theorem behaviors_nodup : (opcodeTable.map Descriptor.behavior).Nodup := by decide

/-- A row's behaviour has that row's form. -/
theorem Behavior.form_of_mem {d : Descriptor} (h : d ∈ opcodeTable) : d.behavior.form = some d.form := by
  unfold Behavior.form
  cases hf : opcodeTable.find? (fun e => e.behavior == d.behavior) with
  | none => exact absurd (List.find?_eq_none.mp hf d h) (by simp)
  | some e =>
    have hb : e.behavior = d.behavior := by simpa using List.find?_some hf
    rw [List.inj_on_of_nodup_map behaviors_nodup (List.mem_of_find?_eq_some hf) h hb]

/-- A row the lookup gives is a row of the table, with the opcode looked up. -/
theorem lookup_mem {opt : Bool} {op : Byte} {d : Descriptor} (h : lookup opt op = some d) :
    d ∈ opcodeTable ∧ d.opcode = op := by
  unfold lookup at h
  split at h
  · next e he =>
    split at h
    · cases h
    · obtain rfl := Option.some.inj h
      exact ⟨List.mem_of_find?_eq_some he, by simpa using List.find?_some he⟩
  · cases h

/-- Everything the generic decoder can answer when it answers an instruction: the opcode has a row, and the
row's form builds the instruction from the bytes asked for. -/
theorem decodeFrom_ok {ε : Type} {opt : Bool} {absent : Byte → ε} {get : Nat → Except ε Byte} {i : Instr}
    (h : decodeFrom opt absent get = .ok i) :
    ∃ op d, get 0 = .ok op ∧ lookup opt op = some d ∧
      (d.form = .single i ∨ (∃ f b, d.form = .byte f ∧ get 1 = .ok b ∧ i = f b) ∨
        ∃ f lo hi, d.form = .word f ∧ get 1 = .ok lo ∧ get 2 = .ok hi ∧ i = f (joinBytes hi lo)) := by
  unfold decodeFrom Form.read at h
  cases h0 : get 0 with
  | error e => simp [h0] at h
  | ok op =>
    cases hd : lookup opt op with
    | none => simp [h0, hd] at h
    | some d =>
      refine ⟨op, d, rfl, hd, ?_⟩
      cases hf : d.form with
      | single j =>
        simp only [h0, hd, hf, Except.ok.injEq] at h
        exact .inl (by rw [h])
      | byte f =>
        cases h1 : get 1 with
        | error e => simp [h0, hd, hf, h1] at h
        | ok b =>
          simp only [h0, hd, hf, h1, Except.ok.injEq] at h
          exact .inr (.inl ⟨f, b, rfl, rfl, h.symm⟩)
      | word f =>
        cases h1 : get 1 with
        | error e => simp [h0, hd, hf, h1] at h
        | ok lo =>
          cases h2 : get 2 with
          | error e => simp [h0, hd, hf, h1, h2] at h
          | ok hi =>
            simp only [h0, hd, hf, h1, h2, Except.ok.injEq] at h
            exact .inr (.inr ⟨f, lo, hi, rfl, rfl, rfl, h.symm⟩)

end Sys2Proof
end

