-- ==== Sys2Proof/Laws/Exec.lean ====
section
/-! SUPPORT. `exec` by mnemonic: the instructions of one mnemonic share one operation, applied to their
opcode and operand. A proof over all instructions splits on this instead of on the 133 constructors. -/

namespace Sys2Proof.Machine

/-- The meaning of an instruction with an operand in one of the nine memory modes, by its mnemonic; the
operand-less instructions are left to `exec`. -/
def execBy (i : Instr) (s : State) : Result :=
  match i.operand with
  | none => exec i s
  | some o =>
    match i.mnemonic with
    | .lda => execLda i.opcode o s
    | .ldx => execLdx i.opcode o s
    | .ldy => execLdy i.opcode o s
    | .sta => execSta i.opcode o s
    | .stx => execStx i.opcode o s
    | .sty => execSty i.opcode o s
    | .and => execAnd i.opcode o s
    | .eor => execEor i.opcode o s
    | .ora => execOra i.opcode o s
    | .bit => execBit i.opcode o s
    | .adc => execAdc i.opcode o s
    | .sbc => execSbc i.opcode o s
    | .cmp => execCmp i.opcode o s
    | .cpx => execCpx i.opcode o s
    | .cpy => execCpy i.opcode o s
    | .inc => execInc i.opcode o s
    | .dec => execDec i.opcode o s
    | .asl => execAsl i.opcode o s
    | .lsr => execLsr i.opcode o s
    | .rol => execRol i.opcode o s
    | .ror => execRor i.opcode o s
    | _ => exec i s

theorem exec_eq_execBy (i : Instr) (s : State) : exec i s = execBy i s := by
  cases i <;> rfl

end Sys2Proof.Machine
end

