-- ==== Sys2Proof/Laws/Flags.lean ====
section
/-! SUPPORT. What each flag computation does to each field of the state, and the status byte's bits. -/

namespace Sys2Proof.Machine

@[simp] theorem State.setZN_a (s : State) (v : Byte) : (s.setZN v).a = s.a := rfl
@[simp] theorem State.setZN_x (s : State) (v : Byte) : (s.setZN v).x = s.x := rfl
@[simp] theorem State.setZN_y (s : State) (v : Byte) : (s.setZN v).y = s.y := rfl
@[simp] theorem State.setZN_sp (s : State) (v : Byte) : (s.setZN v).sp = s.sp := rfl
@[simp] theorem State.setZN_pc (s : State) (v : Byte) : (s.setZN v).pc = s.pc := rfl
@[simp] theorem State.setZN_c (s : State) (v : Byte) : (s.setZN v).c = s.c := rfl
@[simp] theorem State.setZN_z (s : State) (v : Byte) : (s.setZN v).z = (v == 0) := rfl
@[simp] theorem State.setZN_i (s : State) (v : Byte) : (s.setZN v).i = s.i := rfl
@[simp] theorem State.setZN_d (s : State) (v : Byte) : (s.setZN v).d = s.d := rfl
@[simp] theorem State.setZN_b (s : State) (v : Byte) : (s.setZN v).b = s.b := rfl
@[simp] theorem State.setZN_v (s : State) (v : Byte) : (s.setZN v).v = s.v := rfl
@[simp] theorem State.setZN_n (s : State) (v : Byte) : (s.setZN v).n = v.getLsbD 7 := rfl
@[simp] theorem State.setZN_mem (s : State) (v : Byte) : (s.setZN v).mem = s.mem := rfl
@[simp] theorem State.setZN_params (s : State) (v : Byte) : (s.setZN v).params = s.params := rfl
@[simp] theorem State.setZN_lastCycles (s : State) (v : Byte) : (s.setZN v).lastCycles = s.lastCycles := rfl

@[simp] theorem State.unpackStatus_a (s : State) (p : Byte) : (s.unpackStatus p).a = s.a := rfl
@[simp] theorem State.unpackStatus_x (s : State) (p : Byte) : (s.unpackStatus p).x = s.x := rfl
@[simp] theorem State.unpackStatus_y (s : State) (p : Byte) : (s.unpackStatus p).y = s.y := rfl
@[simp] theorem State.unpackStatus_sp (s : State) (p : Byte) : (s.unpackStatus p).sp = s.sp := rfl
@[simp] theorem State.unpackStatus_pc (s : State) (p : Byte) : (s.unpackStatus p).pc = s.pc := rfl
@[simp] theorem State.unpackStatus_c (s : State) (p : Byte) : (s.unpackStatus p).c = p.getLsbD 0 := rfl
@[simp] theorem State.unpackStatus_z (s : State) (p : Byte) : (s.unpackStatus p).z = p.getLsbD 1 := rfl
@[simp] theorem State.unpackStatus_i (s : State) (p : Byte) : (s.unpackStatus p).i = p.getLsbD 2 := rfl
@[simp] theorem State.unpackStatus_d (s : State) (p : Byte) : (s.unpackStatus p).d = p.getLsbD 3 := rfl
@[simp] theorem State.unpackStatus_b (s : State) (p : Byte) : (s.unpackStatus p).b = p.getLsbD 4 := rfl
@[simp] theorem State.unpackStatus_v (s : State) (p : Byte) : (s.unpackStatus p).v = p.getLsbD 6 := rfl
@[simp] theorem State.unpackStatus_n (s : State) (p : Byte) : (s.unpackStatus p).n = p.getLsbD 7 := rfl
@[simp] theorem State.unpackStatus_mem (s : State) (p : Byte) : (s.unpackStatus p).mem = s.mem := rfl
@[simp] theorem State.unpackStatus_params (s : State) (p : Byte) : (s.unpackStatus p).params = s.params := rfl
@[simp] theorem State.unpackStatus_lastCycles (s : State) (p : Byte) : (s.unpackStatus p).lastCycles = s.lastCycles := rfl

@[simp] theorem State.adcFlags_a (s : State) (m : Byte) : (s.adcFlags m).a = s.a := rfl
@[simp] theorem State.adcFlags_x (s : State) (m : Byte) : (s.adcFlags m).x = s.x := rfl
@[simp] theorem State.adcFlags_y (s : State) (m : Byte) : (s.adcFlags m).y = s.y := rfl
@[simp] theorem State.adcFlags_sp (s : State) (m : Byte) : (s.adcFlags m).sp = s.sp := rfl
@[simp] theorem State.adcFlags_pc (s : State) (m : Byte) : (s.adcFlags m).pc = s.pc := rfl
@[simp] theorem State.adcFlags_c (s : State) (m : Byte) : (s.adcFlags m).c = decide (adcSum s.a m s.c > 0xFF) := rfl
@[simp] theorem State.adcFlags_z (s : State) (m : Byte) : (s.adcFlags m).z = (adcResult s.a m s.c == 0) := rfl
@[simp] theorem State.adcFlags_i (s : State) (m : Byte) : (s.adcFlags m).i = s.i := rfl
@[simp] theorem State.adcFlags_d (s : State) (m : Byte) : (s.adcFlags m).d = s.d := rfl
@[simp] theorem State.adcFlags_b (s : State) (m : Byte) : (s.adcFlags m).b = s.b := rfl
@[simp] theorem State.adcFlags_v (s : State) (m : Byte) : (s.adcFlags m).v = vAdd s.a m (adcResult s.a m s.c) := rfl
@[simp] theorem State.adcFlags_n (s : State) (m : Byte) : (s.adcFlags m).n = (adcResult s.a m s.c).getLsbD 7 := rfl
@[simp] theorem State.adcFlags_mem (s : State) (m : Byte) : (s.adcFlags m).mem = s.mem := rfl
@[simp] theorem State.adcFlags_params (s : State) (m : Byte) : (s.adcFlags m).params = s.params := rfl
@[simp] theorem State.adcFlags_lastCycles (s : State) (m : Byte) : (s.adcFlags m).lastCycles = s.lastCycles := rfl

@[simp] theorem State.sbcFlags_a (s : State) (m : Byte) : (s.sbcFlags m).a = s.a := rfl
@[simp] theorem State.sbcFlags_x (s : State) (m : Byte) : (s.sbcFlags m).x = s.x := rfl
@[simp] theorem State.sbcFlags_y (s : State) (m : Byte) : (s.sbcFlags m).y = s.y := rfl
@[simp] theorem State.sbcFlags_sp (s : State) (m : Byte) : (s.sbcFlags m).sp = s.sp := rfl
@[simp] theorem State.sbcFlags_pc (s : State) (m : Byte) : (s.sbcFlags m).pc = s.pc := rfl
@[simp] theorem State.sbcFlags_c (s : State) (m : Byte) : (s.sbcFlags m).c = decide (sbcDiff s.a m s.c ≥ 0) := rfl
@[simp] theorem State.sbcFlags_z (s : State) (m : Byte) : (s.sbcFlags m).z = (sbcResult s.a m s.c == 0) := rfl
@[simp] theorem State.sbcFlags_i (s : State) (m : Byte) : (s.sbcFlags m).i = s.i := rfl
@[simp] theorem State.sbcFlags_d (s : State) (m : Byte) : (s.sbcFlags m).d = s.d := rfl
@[simp] theorem State.sbcFlags_b (s : State) (m : Byte) : (s.sbcFlags m).b = s.b := rfl
@[simp] theorem State.sbcFlags_v (s : State) (m : Byte) : (s.sbcFlags m).v = vAdd s.a (~~~m) (sbcResult s.a m s.c) := rfl
@[simp] theorem State.sbcFlags_n (s : State) (m : Byte) : (s.sbcFlags m).n = (sbcResult s.a m s.c).getLsbD 7 := rfl
@[simp] theorem State.sbcFlags_mem (s : State) (m : Byte) : (s.sbcFlags m).mem = s.mem := rfl
@[simp] theorem State.sbcFlags_params (s : State) (m : Byte) : (s.sbcFlags m).params = s.params := rfl
@[simp] theorem State.sbcFlags_lastCycles (s : State) (m : Byte) : (s.sbcFlags m).lastCycles = s.lastCycles := rfl

@[simp] theorem State.compareFlags_a (s : State) (reg m : Byte) : (s.compareFlags reg m).a = s.a := rfl
@[simp] theorem State.compareFlags_x (s : State) (reg m : Byte) : (s.compareFlags reg m).x = s.x := rfl
@[simp] theorem State.compareFlags_y (s : State) (reg m : Byte) : (s.compareFlags reg m).y = s.y := rfl
@[simp] theorem State.compareFlags_sp (s : State) (reg m : Byte) : (s.compareFlags reg m).sp = s.sp := rfl
@[simp] theorem State.compareFlags_pc (s : State) (reg m : Byte) : (s.compareFlags reg m).pc = s.pc := rfl
@[simp] theorem State.compareFlags_c (s : State) (reg m : Byte) : (s.compareFlags reg m).c = decide (reg.toNat ≥ m.toNat) := rfl
@[simp] theorem State.compareFlags_z (s : State) (reg m : Byte) : (s.compareFlags reg m).z = (reg - m == 0) := rfl
@[simp] theorem State.compareFlags_i (s : State) (reg m : Byte) : (s.compareFlags reg m).i = s.i := rfl
@[simp] theorem State.compareFlags_d (s : State) (reg m : Byte) : (s.compareFlags reg m).d = s.d := rfl
@[simp] theorem State.compareFlags_b (s : State) (reg m : Byte) : (s.compareFlags reg m).b = s.b := rfl
@[simp] theorem State.compareFlags_v (s : State) (reg m : Byte) : (s.compareFlags reg m).v = s.v := rfl
@[simp] theorem State.compareFlags_n (s : State) (reg m : Byte) : (s.compareFlags reg m).n = (reg - m).getLsbD 7 := rfl
@[simp] theorem State.compareFlags_mem (s : State) (reg m : Byte) : (s.compareFlags reg m).mem = s.mem := rfl
@[simp] theorem State.compareFlags_params (s : State) (reg m : Byte) : (s.compareFlags reg m).params = s.params := rfl
@[simp] theorem State.compareFlags_lastCycles (s : State) (reg m : Byte) : (s.compareFlags reg m).lastCycles = s.lastCycles := rfl

@[simp] theorem State.bitFlags_a (s : State) (m : Byte) : (s.bitFlags m).a = s.a := rfl
@[simp] theorem State.bitFlags_x (s : State) (m : Byte) : (s.bitFlags m).x = s.x := rfl
@[simp] theorem State.bitFlags_y (s : State) (m : Byte) : (s.bitFlags m).y = s.y := rfl
@[simp] theorem State.bitFlags_sp (s : State) (m : Byte) : (s.bitFlags m).sp = s.sp := rfl
@[simp] theorem State.bitFlags_pc (s : State) (m : Byte) : (s.bitFlags m).pc = s.pc := rfl
@[simp] theorem State.bitFlags_c (s : State) (m : Byte) : (s.bitFlags m).c = s.c := rfl
@[simp] theorem State.bitFlags_z (s : State) (m : Byte) : (s.bitFlags m).z = ((s.a &&& m) == 0) := rfl
@[simp] theorem State.bitFlags_i (s : State) (m : Byte) : (s.bitFlags m).i = s.i := rfl
@[simp] theorem State.bitFlags_d (s : State) (m : Byte) : (s.bitFlags m).d = s.d := rfl
@[simp] theorem State.bitFlags_b (s : State) (m : Byte) : (s.bitFlags m).b = s.b := rfl
@[simp] theorem State.bitFlags_v (s : State) (m : Byte) : (s.bitFlags m).v = m.getLsbD 6 := rfl
@[simp] theorem State.bitFlags_n (s : State) (m : Byte) : (s.bitFlags m).n = m.getLsbD 7 := rfl
@[simp] theorem State.bitFlags_mem (s : State) (m : Byte) : (s.bitFlags m).mem = s.mem := rfl
@[simp] theorem State.bitFlags_params (s : State) (m : Byte) : (s.bitFlags m).params = s.params := rfl
@[simp] theorem State.bitFlags_lastCycles (s : State) (m : Byte) : (s.bitFlags m).lastCycles = s.lastCycles := rfl

@[simp] theorem State.aslFlags_a (s : State) (m : Byte) : (s.aslFlags m).a = s.a := rfl
@[simp] theorem State.aslFlags_x (s : State) (m : Byte) : (s.aslFlags m).x = s.x := rfl
@[simp] theorem State.aslFlags_y (s : State) (m : Byte) : (s.aslFlags m).y = s.y := rfl
@[simp] theorem State.aslFlags_sp (s : State) (m : Byte) : (s.aslFlags m).sp = s.sp := rfl
@[simp] theorem State.aslFlags_pc (s : State) (m : Byte) : (s.aslFlags m).pc = s.pc := rfl
@[simp] theorem State.aslFlags_c (s : State) (m : Byte) : (s.aslFlags m).c = m.getLsbD 7 := rfl
@[simp] theorem State.aslFlags_z (s : State) (m : Byte) : (s.aslFlags m).z = (aslResult m s.c == 0) := rfl
@[simp] theorem State.aslFlags_i (s : State) (m : Byte) : (s.aslFlags m).i = s.i := rfl
@[simp] theorem State.aslFlags_d (s : State) (m : Byte) : (s.aslFlags m).d = s.d := rfl
@[simp] theorem State.aslFlags_b (s : State) (m : Byte) : (s.aslFlags m).b = s.b := rfl
@[simp] theorem State.aslFlags_v (s : State) (m : Byte) : (s.aslFlags m).v = s.v := rfl
@[simp] theorem State.aslFlags_n (s : State) (m : Byte) : (s.aslFlags m).n = (aslResult m s.c).getLsbD 7 := rfl
@[simp] theorem State.aslFlags_mem (s : State) (m : Byte) : (s.aslFlags m).mem = s.mem := rfl
@[simp] theorem State.aslFlags_params (s : State) (m : Byte) : (s.aslFlags m).params = s.params := rfl
@[simp] theorem State.aslFlags_lastCycles (s : State) (m : Byte) : (s.aslFlags m).lastCycles = s.lastCycles := rfl

@[simp] theorem State.lsrFlags_a (s : State) (m : Byte) : (s.lsrFlags m).a = s.a := rfl
@[simp] theorem State.lsrFlags_x (s : State) (m : Byte) : (s.lsrFlags m).x = s.x := rfl
@[simp] theorem State.lsrFlags_y (s : State) (m : Byte) : (s.lsrFlags m).y = s.y := rfl
@[simp] theorem State.lsrFlags_sp (s : State) (m : Byte) : (s.lsrFlags m).sp = s.sp := rfl
@[simp] theorem State.lsrFlags_pc (s : State) (m : Byte) : (s.lsrFlags m).pc = s.pc := rfl
@[simp] theorem State.lsrFlags_c (s : State) (m : Byte) : (s.lsrFlags m).c = m.getLsbD 0 := rfl
@[simp] theorem State.lsrFlags_z (s : State) (m : Byte) : (s.lsrFlags m).z = (lsrResult m s.c == 0) := rfl
@[simp] theorem State.lsrFlags_i (s : State) (m : Byte) : (s.lsrFlags m).i = s.i := rfl
@[simp] theorem State.lsrFlags_d (s : State) (m : Byte) : (s.lsrFlags m).d = s.d := rfl
@[simp] theorem State.lsrFlags_b (s : State) (m : Byte) : (s.lsrFlags m).b = s.b := rfl
@[simp] theorem State.lsrFlags_v (s : State) (m : Byte) : (s.lsrFlags m).v = s.v := rfl
@[simp] theorem State.lsrFlags_n (s : State) (m : Byte) : (s.lsrFlags m).n = (lsrResult m s.c).getLsbD 7 := rfl
@[simp] theorem State.lsrFlags_mem (s : State) (m : Byte) : (s.lsrFlags m).mem = s.mem := rfl
@[simp] theorem State.lsrFlags_params (s : State) (m : Byte) : (s.lsrFlags m).params = s.params := rfl
@[simp] theorem State.lsrFlags_lastCycles (s : State) (m : Byte) : (s.lsrFlags m).lastCycles = s.lastCycles := rfl

@[simp] theorem State.rolFlags_a (s : State) (m : Byte) : (s.rolFlags m).a = s.a := rfl
@[simp] theorem State.rolFlags_x (s : State) (m : Byte) : (s.rolFlags m).x = s.x := rfl
@[simp] theorem State.rolFlags_y (s : State) (m : Byte) : (s.rolFlags m).y = s.y := rfl
@[simp] theorem State.rolFlags_sp (s : State) (m : Byte) : (s.rolFlags m).sp = s.sp := rfl
@[simp] theorem State.rolFlags_pc (s : State) (m : Byte) : (s.rolFlags m).pc = s.pc := rfl
@[simp] theorem State.rolFlags_c (s : State) (m : Byte) : (s.rolFlags m).c = m.getLsbD 7 := rfl
@[simp] theorem State.rolFlags_z (s : State) (m : Byte) : (s.rolFlags m).z = (rolResult m s.c == 0) := rfl
@[simp] theorem State.rolFlags_i (s : State) (m : Byte) : (s.rolFlags m).i = s.i := rfl
@[simp] theorem State.rolFlags_d (s : State) (m : Byte) : (s.rolFlags m).d = s.d := rfl
@[simp] theorem State.rolFlags_b (s : State) (m : Byte) : (s.rolFlags m).b = s.b := rfl
@[simp] theorem State.rolFlags_v (s : State) (m : Byte) : (s.rolFlags m).v = s.v := rfl
@[simp] theorem State.rolFlags_n (s : State) (m : Byte) : (s.rolFlags m).n = (rolResult m s.c).getLsbD 7 := rfl
@[simp] theorem State.rolFlags_mem (s : State) (m : Byte) : (s.rolFlags m).mem = s.mem := rfl
@[simp] theorem State.rolFlags_params (s : State) (m : Byte) : (s.rolFlags m).params = s.params := rfl
@[simp] theorem State.rolFlags_lastCycles (s : State) (m : Byte) : (s.rolFlags m).lastCycles = s.lastCycles := rfl

@[simp] theorem State.rorFlags_a (s : State) (m : Byte) : (s.rorFlags m).a = s.a := rfl
@[simp] theorem State.rorFlags_x (s : State) (m : Byte) : (s.rorFlags m).x = s.x := rfl
@[simp] theorem State.rorFlags_y (s : State) (m : Byte) : (s.rorFlags m).y = s.y := rfl
@[simp] theorem State.rorFlags_sp (s : State) (m : Byte) : (s.rorFlags m).sp = s.sp := rfl
@[simp] theorem State.rorFlags_pc (s : State) (m : Byte) : (s.rorFlags m).pc = s.pc := rfl
@[simp] theorem State.rorFlags_c (s : State) (m : Byte) : (s.rorFlags m).c = m.getLsbD 0 := rfl
@[simp] theorem State.rorFlags_z (s : State) (m : Byte) : (s.rorFlags m).z = (rorResult m s.c == 0) := rfl
@[simp] theorem State.rorFlags_i (s : State) (m : Byte) : (s.rorFlags m).i = s.i := rfl
@[simp] theorem State.rorFlags_d (s : State) (m : Byte) : (s.rorFlags m).d = s.d := rfl
@[simp] theorem State.rorFlags_b (s : State) (m : Byte) : (s.rorFlags m).b = s.b := rfl
@[simp] theorem State.rorFlags_v (s : State) (m : Byte) : (s.rorFlags m).v = s.v := rfl
@[simp] theorem State.rorFlags_n (s : State) (m : Byte) : (s.rorFlags m).n = (rorResult m s.c).getLsbD 7 := rfl
@[simp] theorem State.rorFlags_mem (s : State) (m : Byte) : (s.rorFlags m).mem = s.mem := rfl
@[simp] theorem State.rorFlags_params (s : State) (m : Byte) : (s.rorFlags m).params = s.params := rfl
@[simp] theorem State.rorFlags_lastCycles (s : State) (m : Byte) : (s.rorFlags m).lastCycles = s.lastCycles := rfl

end Sys2Proof.Machine
end

