-- ==== Sys2Proof/Laws/Step.lean ====
section
/-! SUPPORT. What a step can do, said once: it ran one instruction, which the bytes at PC are. -/

namespace Sys2Proof.Machine

/-- A call of `execute` that answers a next state ran one instruction. -/
theorem execute_next {op : Byte} {s t : State} (h : execute op s = .next t) :
    ∃ i, s.instrOf op = .ok i ∧ exec i s = .next t := by
  unfold execute raise at h
  split at h
  · cases h
  · next i hi => exact ⟨i, hi, h⟩

/-- R93: `execute` of an opcode with a row invokes the behaviour of its descriptor. -/
theorem execute_invokes {op : Byte} {s : State} {d : Descriptor} (h : lookup s.params.optFlagNop op = some d) :
    s.invoke d.behavior = some (execute op s) := by
  have hr : d.form.read (fun k => if k = 0 then .ok op else s.fetchByte k) = d.form.read s.fetchByte := by
    cases hf : d.form <;> simp [Form.read]
  unfold State.invoke execute State.instrOf decodeFrom
  simp only [Behavior.form_of_mem (lookup_mem h).1, if_true, h, hr]
  cases d.form.read s.fetchByte <;> rfl

/-- A step that answers a next state read a backed opcode and ran one instruction. -/
theorem step_next {s t : State} (h : step s = .next t) :
    ∃ op i, s.fetchByte 0 = .ok op ∧ s.instrOf op = .ok i ∧ exec i s = .next t := by
  unfold step fetchAndExecute raise at h
  split at h
  · cases h
  · next op hop =>
    obtain ⟨i, hi, he⟩ := execute_next h
    exact ⟨op, i, hop, hi, he⟩

end Sys2Proof.Machine
end

