-- ==== Sys2Proof/Laws/HostOps.lean ====
section
/-! SUPPORT. What an exception can leave behind, said once: only PC may differ (R181, R184). -/

namespace Sys2Proof.Machine

/-- After an exception inside `execute` only PC may differ. -/
theorem State.afterFault_eq (s : State) (free length : Nat) (e : Fault) :
    ∃ w, s.afterFault free length e = s.setPc w := by
  cases e
  · exact ⟨s.pc, rfl⟩
  · exact ⟨_, rfl⟩
  · exact ⟨s.pc, rfl⟩

/-- In the state a run stops in after an exception only PC may differ. -/
theorem State.afterStop_eq (s : State) (free : Nat) (e : Fault) : ∃ w, s.afterStop free e = s.setPc w := by
  unfold State.afterStop
  split
  · exact ⟨s.pc, rfl⟩
  · exact s.afterFault_eq free _ e

end Sys2Proof.Machine

namespace Sys2Proof.Safety

open Sys2Proof.Machine

theorem stopState_eq (free : Nat) (s : State) : ∃ w, stopState free s = s.setPc w := by
  unfold stopState
  split
  · exact ⟨s.pc, rfl⟩
  · exact s.afterStop_eq free _
  · exact ⟨s.pc, rfl⟩

/-- While the next step has a next state, a run of no steps is left where it is. -/
theorem stopState_of_next {free : Nat} {s t : State} (h : step s = .next t) : stopState free s = s := by
  simp [stopState, h]

end Sys2Proof.Safety
end

