-- ==== Sys2Proof/Laws/PerInstr.lean ====
section
/-! SUPPORT. The family `Encoded`: what holds of every instruction as syntax, one lemma per constructor. -/

namespace Sys2Proof.Laws.Encoded

/-- The opcode of an instruction has a row of the table; that row has the instruction's mnemonic, mode and
length, which is the number of bytes its encoding has (R60, R63, R64), and builds the instruction from its
own operand bytes. -/
def Statement (i : Instr) : Prop :=
  ∃ d, lookup true i.opcode = some d ∧ d.mnemonic = i.mnemonic ∧ d.mode = i.mode ∧
    (encode i).length = d.length ∧ d.form.Builds i

theorem ldaIzx (z : Byte) : Statement (.ldaIzx z) := ⟨_, rfl, rfl, rfl, rfl, z, rfl, rfl⟩
theorem ldaZp (z : Byte) : Statement (.ldaZp z) := ⟨_, rfl, rfl, rfl, rfl, z, rfl, rfl⟩
theorem ldaImm (v : Byte) : Statement (.ldaImm v) := ⟨_, rfl, rfl, rfl, rfl, v, rfl, rfl⟩
theorem ldaAbs (w : Word) : Statement (.ldaAbs w) := ⟨_, rfl, rfl, rfl, rfl, w, rfl, rfl⟩
theorem ldaIzy (z : Byte) : Statement (.ldaIzy z) := ⟨_, rfl, rfl, rfl, rfl, z, rfl, rfl⟩
theorem ldaZpx (z : Byte) : Statement (.ldaZpx z) := ⟨_, rfl, rfl, rfl, rfl, z, rfl, rfl⟩
theorem ldaAbsy (w : Word) : Statement (.ldaAbsy w) := ⟨_, rfl, rfl, rfl, rfl, w, rfl, rfl⟩
theorem ldaAbsx (w : Word) : Statement (.ldaAbsx w) := ⟨_, rfl, rfl, rfl, rfl, w, rfl, rfl⟩
theorem ldxImm (v : Byte) : Statement (.ldxImm v) := ⟨_, rfl, rfl, rfl, rfl, v, rfl, rfl⟩
theorem ldxZp (z : Byte) : Statement (.ldxZp z) := ⟨_, rfl, rfl, rfl, rfl, z, rfl, rfl⟩
theorem ldxAbs (w : Word) : Statement (.ldxAbs w) := ⟨_, rfl, rfl, rfl, rfl, w, rfl, rfl⟩
theorem ldxZpy (z : Byte) : Statement (.ldxZpy z) := ⟨_, rfl, rfl, rfl, rfl, z, rfl, rfl⟩
theorem ldxAbsy (w : Word) : Statement (.ldxAbsy w) := ⟨_, rfl, rfl, rfl, rfl, w, rfl, rfl⟩
theorem ldyImm (v : Byte) : Statement (.ldyImm v) := ⟨_, rfl, rfl, rfl, rfl, v, rfl, rfl⟩
theorem ldyZp (z : Byte) : Statement (.ldyZp z) := ⟨_, rfl, rfl, rfl, rfl, z, rfl, rfl⟩
theorem ldyAbs (w : Word) : Statement (.ldyAbs w) := ⟨_, rfl, rfl, rfl, rfl, w, rfl, rfl⟩
theorem ldyZpx (z : Byte) : Statement (.ldyZpx z) := ⟨_, rfl, rfl, rfl, rfl, z, rfl, rfl⟩
theorem ldyAbsx (w : Word) : Statement (.ldyAbsx w) := ⟨_, rfl, rfl, rfl, rfl, w, rfl, rfl⟩
theorem staIzx (z : Byte) : Statement (.staIzx z) := ⟨_, rfl, rfl, rfl, rfl, z, rfl, rfl⟩
theorem staZp (z : Byte) : Statement (.staZp z) := ⟨_, rfl, rfl, rfl, rfl, z, rfl, rfl⟩
theorem staAbs (w : Word) : Statement (.staAbs w) := ⟨_, rfl, rfl, rfl, rfl, w, rfl, rfl⟩
theorem staIzy (z : Byte) : Statement (.staIzy z) := ⟨_, rfl, rfl, rfl, rfl, z, rfl, rfl⟩
theorem staZpx (z : Byte) : Statement (.staZpx z) := ⟨_, rfl, rfl, rfl, rfl, z, rfl, rfl⟩
theorem staAbsy (w : Word) : Statement (.staAbsy w) := ⟨_, rfl, rfl, rfl, rfl, w, rfl, rfl⟩
theorem staAbsx (w : Word) : Statement (.staAbsx w) := ⟨_, rfl, rfl, rfl, rfl, w, rfl, rfl⟩
theorem stxZp (z : Byte) : Statement (.stxZp z) := ⟨_, rfl, rfl, rfl, rfl, z, rfl, rfl⟩
theorem stxAbs (w : Word) : Statement (.stxAbs w) := ⟨_, rfl, rfl, rfl, rfl, w, rfl, rfl⟩
theorem stxZpy (z : Byte) : Statement (.stxZpy z) := ⟨_, rfl, rfl, rfl, rfl, z, rfl, rfl⟩
theorem styZp (z : Byte) : Statement (.styZp z) := ⟨_, rfl, rfl, rfl, rfl, z, rfl, rfl⟩
theorem styAbs (w : Word) : Statement (.styAbs w) := ⟨_, rfl, rfl, rfl, rfl, w, rfl, rfl⟩
theorem styZpx (z : Byte) : Statement (.styZpx z) := ⟨_, rfl, rfl, rfl, rfl, z, rfl, rfl⟩
theorem tax : Statement (.tax) := ⟨_, rfl, rfl, rfl, rfl, rfl, rfl⟩
theorem tay : Statement (.tay) := ⟨_, rfl, rfl, rfl, rfl, rfl, rfl⟩
theorem txa : Statement (.txa) := ⟨_, rfl, rfl, rfl, rfl, rfl, rfl⟩
theorem tya : Statement (.tya) := ⟨_, rfl, rfl, rfl, rfl, rfl, rfl⟩
theorem tsx : Statement (.tsx) := ⟨_, rfl, rfl, rfl, rfl, rfl, rfl⟩
theorem txs : Statement (.txs) := ⟨_, rfl, rfl, rfl, rfl, rfl, rfl⟩
theorem pha : Statement (.pha) := ⟨_, rfl, rfl, rfl, rfl, rfl, rfl⟩
theorem php : Statement (.php) := ⟨_, rfl, rfl, rfl, rfl, rfl, rfl⟩
theorem pla : Statement (.pla) := ⟨_, rfl, rfl, rfl, rfl, rfl, rfl⟩
theorem plp : Statement (.plp) := ⟨_, rfl, rfl, rfl, rfl, rfl, rfl⟩
theorem andIzx (z : Byte) : Statement (.andIzx z) := ⟨_, rfl, rfl, rfl, rfl, z, rfl, rfl⟩
theorem andZp (z : Byte) : Statement (.andZp z) := ⟨_, rfl, rfl, rfl, rfl, z, rfl, rfl⟩
theorem andImm (v : Byte) : Statement (.andImm v) := ⟨_, rfl, rfl, rfl, rfl, v, rfl, rfl⟩
theorem andAbs (w : Word) : Statement (.andAbs w) := ⟨_, rfl, rfl, rfl, rfl, w, rfl, rfl⟩
theorem andIzy (z : Byte) : Statement (.andIzy z) := ⟨_, rfl, rfl, rfl, rfl, z, rfl, rfl⟩
theorem andZpx (z : Byte) : Statement (.andZpx z) := ⟨_, rfl, rfl, rfl, rfl, z, rfl, rfl⟩
theorem andAbsy (w : Word) : Statement (.andAbsy w) := ⟨_, rfl, rfl, rfl, rfl, w, rfl, rfl⟩
theorem andAbsx (w : Word) : Statement (.andAbsx w) := ⟨_, rfl, rfl, rfl, rfl, w, rfl, rfl⟩
theorem eorIzx (z : Byte) : Statement (.eorIzx z) := ⟨_, rfl, rfl, rfl, rfl, z, rfl, rfl⟩
theorem eorZp (z : Byte) : Statement (.eorZp z) := ⟨_, rfl, rfl, rfl, rfl, z, rfl, rfl⟩
theorem eorImm (v : Byte) : Statement (.eorImm v) := ⟨_, rfl, rfl, rfl, rfl, v, rfl, rfl⟩
theorem eorAbs (w : Word) : Statement (.eorAbs w) := ⟨_, rfl, rfl, rfl, rfl, w, rfl, rfl⟩
theorem eorIzy (z : Byte) : Statement (.eorIzy z) := ⟨_, rfl, rfl, rfl, rfl, z, rfl, rfl⟩
theorem eorZpx (z : Byte) : Statement (.eorZpx z) := ⟨_, rfl, rfl, rfl, rfl, z, rfl, rfl⟩
theorem eorAbsy (w : Word) : Statement (.eorAbsy w) := ⟨_, rfl, rfl, rfl, rfl, w, rfl, rfl⟩
theorem eorAbsx (w : Word) : Statement (.eorAbsx w) := ⟨_, rfl, rfl, rfl, rfl, w, rfl, rfl⟩
theorem oraIzx (z : Byte) : Statement (.oraIzx z) := ⟨_, rfl, rfl, rfl, rfl, z, rfl, rfl⟩
theorem oraZp (z : Byte) : Statement (.oraZp z) := ⟨_, rfl, rfl, rfl, rfl, z, rfl, rfl⟩
theorem oraImm (v : Byte) : Statement (.oraImm v) := ⟨_, rfl, rfl, rfl, rfl, v, rfl, rfl⟩
theorem oraAbs (w : Word) : Statement (.oraAbs w) := ⟨_, rfl, rfl, rfl, rfl, w, rfl, rfl⟩
theorem oraIzy (z : Byte) : Statement (.oraIzy z) := ⟨_, rfl, rfl, rfl, rfl, z, rfl, rfl⟩
theorem oraZpx (z : Byte) : Statement (.oraZpx z) := ⟨_, rfl, rfl, rfl, rfl, z, rfl, rfl⟩
theorem oraAbsy (w : Word) : Statement (.oraAbsy w) := ⟨_, rfl, rfl, rfl, rfl, w, rfl, rfl⟩
theorem oraAbsx (w : Word) : Statement (.oraAbsx w) := ⟨_, rfl, rfl, rfl, rfl, w, rfl, rfl⟩
theorem bitZp (z : Byte) : Statement (.bitZp z) := ⟨_, rfl, rfl, rfl, rfl, z, rfl, rfl⟩
theorem bitAbs (w : Word) : Statement (.bitAbs w) := ⟨_, rfl, rfl, rfl, rfl, w, rfl, rfl⟩
theorem adcIzx (z : Byte) : Statement (.adcIzx z) := ⟨_, rfl, rfl, rfl, rfl, z, rfl, rfl⟩
theorem adcZp (z : Byte) : Statement (.adcZp z) := ⟨_, rfl, rfl, rfl, rfl, z, rfl, rfl⟩
theorem adcImm (v : Byte) : Statement (.adcImm v) := ⟨_, rfl, rfl, rfl, rfl, v, rfl, rfl⟩
theorem adcAbs (w : Word) : Statement (.adcAbs w) := ⟨_, rfl, rfl, rfl, rfl, w, rfl, rfl⟩
theorem adcIzy (z : Byte) : Statement (.adcIzy z) := ⟨_, rfl, rfl, rfl, rfl, z, rfl, rfl⟩
theorem adcZpx (z : Byte) : Statement (.adcZpx z) := ⟨_, rfl, rfl, rfl, rfl, z, rfl, rfl⟩
theorem adcAbsy (w : Word) : Statement (.adcAbsy w) := ⟨_, rfl, rfl, rfl, rfl, w, rfl, rfl⟩
theorem adcAbsx (w : Word) : Statement (.adcAbsx w) := ⟨_, rfl, rfl, rfl, rfl, w, rfl, rfl⟩
theorem sbcIzx (z : Byte) : Statement (.sbcIzx z) := ⟨_, rfl, rfl, rfl, rfl, z, rfl, rfl⟩
theorem sbcZp (z : Byte) : Statement (.sbcZp z) := ⟨_, rfl, rfl, rfl, rfl, z, rfl, rfl⟩
theorem sbcImm (v : Byte) : Statement (.sbcImm v) := ⟨_, rfl, rfl, rfl, rfl, v, rfl, rfl⟩
theorem sbcAbs (w : Word) : Statement (.sbcAbs w) := ⟨_, rfl, rfl, rfl, rfl, w, rfl, rfl⟩
theorem sbcIzy (z : Byte) : Statement (.sbcIzy z) := ⟨_, rfl, rfl, rfl, rfl, z, rfl, rfl⟩
theorem sbcZpx (z : Byte) : Statement (.sbcZpx z) := ⟨_, rfl, rfl, rfl, rfl, z, rfl, rfl⟩
theorem sbcAbsy (w : Word) : Statement (.sbcAbsy w) := ⟨_, rfl, rfl, rfl, rfl, w, rfl, rfl⟩
theorem sbcAbsx (w : Word) : Statement (.sbcAbsx w) := ⟨_, rfl, rfl, rfl, rfl, w, rfl, rfl⟩
theorem cmpIzx (z : Byte) : Statement (.cmpIzx z) := ⟨_, rfl, rfl, rfl, rfl, z, rfl, rfl⟩
theorem cmpZp (z : Byte) : Statement (.cmpZp z) := ⟨_, rfl, rfl, rfl, rfl, z, rfl, rfl⟩
theorem cmpImm (v : Byte) : Statement (.cmpImm v) := ⟨_, rfl, rfl, rfl, rfl, v, rfl, rfl⟩
theorem cmpAbs (w : Word) : Statement (.cmpAbs w) := ⟨_, rfl, rfl, rfl, rfl, w, rfl, rfl⟩
theorem cmpIzy (z : Byte) : Statement (.cmpIzy z) := ⟨_, rfl, rfl, rfl, rfl, z, rfl, rfl⟩
theorem cmpZpx (z : Byte) : Statement (.cmpZpx z) := ⟨_, rfl, rfl, rfl, rfl, z, rfl, rfl⟩
theorem cmpAbsy (w : Word) : Statement (.cmpAbsy w) := ⟨_, rfl, rfl, rfl, rfl, w, rfl, rfl⟩
theorem cmpAbsx (w : Word) : Statement (.cmpAbsx w) := ⟨_, rfl, rfl, rfl, rfl, w, rfl, rfl⟩
theorem cpxImm (v : Byte) : Statement (.cpxImm v) := ⟨_, rfl, rfl, rfl, rfl, v, rfl, rfl⟩
theorem cpxZp (z : Byte) : Statement (.cpxZp z) := ⟨_, rfl, rfl, rfl, rfl, z, rfl, rfl⟩
theorem cpxAbs (w : Word) : Statement (.cpxAbs w) := ⟨_, rfl, rfl, rfl, rfl, w, rfl, rfl⟩
theorem cpyImm (v : Byte) : Statement (.cpyImm v) := ⟨_, rfl, rfl, rfl, rfl, v, rfl, rfl⟩
theorem cpyZp (z : Byte) : Statement (.cpyZp z) := ⟨_, rfl, rfl, rfl, rfl, z, rfl, rfl⟩
theorem cpyAbs (w : Word) : Statement (.cpyAbs w) := ⟨_, rfl, rfl, rfl, rfl, w, rfl, rfl⟩
theorem incZp (z : Byte) : Statement (.incZp z) := ⟨_, rfl, rfl, rfl, rfl, z, rfl, rfl⟩
theorem incAbs (w : Word) : Statement (.incAbs w) := ⟨_, rfl, rfl, rfl, rfl, w, rfl, rfl⟩
theorem incZpx (z : Byte) : Statement (.incZpx z) := ⟨_, rfl, rfl, rfl, rfl, z, rfl, rfl⟩
theorem incAbsx (w : Word) : Statement (.incAbsx w) := ⟨_, rfl, rfl, rfl, rfl, w, rfl, rfl⟩
theorem decZp (z : Byte) : Statement (.decZp z) := ⟨_, rfl, rfl, rfl, rfl, z, rfl, rfl⟩
theorem decAbs (w : Word) : Statement (.decAbs w) := ⟨_, rfl, rfl, rfl, rfl, w, rfl, rfl⟩
theorem decZpx (z : Byte) : Statement (.decZpx z) := ⟨_, rfl, rfl, rfl, rfl, z, rfl, rfl⟩
theorem decAbsx (w : Word) : Statement (.decAbsx w) := ⟨_, rfl, rfl, rfl, rfl, w, rfl, rfl⟩
theorem inx : Statement (.inx) := ⟨_, rfl, rfl, rfl, rfl, rfl, rfl⟩
theorem iny : Statement (.iny) := ⟨_, rfl, rfl, rfl, rfl, rfl, rfl⟩
theorem dex : Statement (.dex) := ⟨_, rfl, rfl, rfl, rfl, rfl, rfl⟩
theorem dey : Statement (.dey) := ⟨_, rfl, rfl, rfl, rfl, rfl, rfl⟩
theorem aslZp (z : Byte) : Statement (.aslZp z) := ⟨_, rfl, rfl, rfl, rfl, z, rfl, rfl⟩
theorem aslA : Statement (.aslA) := ⟨_, rfl, rfl, rfl, rfl, rfl, rfl⟩
theorem aslAbs (w : Word) : Statement (.aslAbs w) := ⟨_, rfl, rfl, rfl, rfl, w, rfl, rfl⟩
theorem aslZpx (z : Byte) : Statement (.aslZpx z) := ⟨_, rfl, rfl, rfl, rfl, z, rfl, rfl⟩
theorem aslAbsx (w : Word) : Statement (.aslAbsx w) := ⟨_, rfl, rfl, rfl, rfl, w, rfl, rfl⟩
theorem lsrZp (z : Byte) : Statement (.lsrZp z) := ⟨_, rfl, rfl, rfl, rfl, z, rfl, rfl⟩
theorem lsrA : Statement (.lsrA) := ⟨_, rfl, rfl, rfl, rfl, rfl, rfl⟩
theorem lsrAbs (w : Word) : Statement (.lsrAbs w) := ⟨_, rfl, rfl, rfl, rfl, w, rfl, rfl⟩
theorem lsrZpx (z : Byte) : Statement (.lsrZpx z) := ⟨_, rfl, rfl, rfl, rfl, z, rfl, rfl⟩
theorem lsrAbsx (w : Word) : Statement (.lsrAbsx w) := ⟨_, rfl, rfl, rfl, rfl, w, rfl, rfl⟩
theorem rolZp (z : Byte) : Statement (.rolZp z) := ⟨_, rfl, rfl, rfl, rfl, z, rfl, rfl⟩
theorem rolA : Statement (.rolA) := ⟨_, rfl, rfl, rfl, rfl, rfl, rfl⟩
theorem rolAbs (w : Word) : Statement (.rolAbs w) := ⟨_, rfl, rfl, rfl, rfl, w, rfl, rfl⟩
theorem rolZpx (z : Byte) : Statement (.rolZpx z) := ⟨_, rfl, rfl, rfl, rfl, z, rfl, rfl⟩
theorem rolAbsx (w : Word) : Statement (.rolAbsx w) := ⟨_, rfl, rfl, rfl, rfl, w, rfl, rfl⟩
theorem rorZp (z : Byte) : Statement (.rorZp z) := ⟨_, rfl, rfl, rfl, rfl, z, rfl, rfl⟩
theorem rorA : Statement (.rorA) := ⟨_, rfl, rfl, rfl, rfl, rfl, rfl⟩
theorem rorAbs (w : Word) : Statement (.rorAbs w) := ⟨_, rfl, rfl, rfl, rfl, w, rfl, rfl⟩
theorem rorZpx (z : Byte) : Statement (.rorZpx z) := ⟨_, rfl, rfl, rfl, rfl, z, rfl, rfl⟩
theorem rorAbsx (w : Word) : Statement (.rorAbsx w) := ⟨_, rfl, rfl, rfl, rfl, w, rfl, rfl⟩
theorem clc : Statement (.clc) := ⟨_, rfl, rfl, rfl, rfl, rfl, rfl⟩
theorem sec : Statement (.sec) := ⟨_, rfl, rfl, rfl, rfl, rfl, rfl⟩
theorem clv : Statement (.clv) := ⟨_, rfl, rfl, rfl, rfl, rfl, rfl⟩
theorem nop : Statement (.nop) := ⟨_, rfl, rfl, rfl, rfl, rfl, rfl⟩

/-- The statement of the family for every instruction. -/
theorem all (i : Instr) : Statement i :=
  match i with
  | .ldaIzx z => ldaIzx z
  | .ldaZp z => ldaZp z
  | .ldaImm v => ldaImm v
  | .ldaAbs w => ldaAbs w
  | .ldaIzy z => ldaIzy z
  | .ldaZpx z => ldaZpx z
  | .ldaAbsy w => ldaAbsy w
  | .ldaAbsx w => ldaAbsx w
  | .ldxImm v => ldxImm v
  | .ldxZp z => ldxZp z
  | .ldxAbs w => ldxAbs w
  | .ldxZpy z => ldxZpy z
  | .ldxAbsy w => ldxAbsy w
  | .ldyImm v => ldyImm v
  | .ldyZp z => ldyZp z
  | .ldyAbs w => ldyAbs w
  | .ldyZpx z => ldyZpx z
  | .ldyAbsx w => ldyAbsx w
  | .staIzx z => staIzx z
  | .staZp z => staZp z
  | .staAbs w => staAbs w
  | .staIzy z => staIzy z
  | .staZpx z => staZpx z
  | .staAbsy w => staAbsy w
  | .staAbsx w => staAbsx w
  | .stxZp z => stxZp z
  | .stxAbs w => stxAbs w
  | .stxZpy z => stxZpy z
  | .styZp z => styZp z
  | .styAbs w => styAbs w
  | .styZpx z => styZpx z
  | .tax => tax
  | .tay => tay
  | .txa => txa
  | .tya => tya
  | .tsx => tsx
  | .txs => txs
  | .pha => pha
  | .php => php
  | .pla => pla
  | .plp => plp
  | .andIzx z => andIzx z
  | .andZp z => andZp z
  | .andImm v => andImm v
  | .andAbs w => andAbs w
  | .andIzy z => andIzy z
  | .andZpx z => andZpx z
  | .andAbsy w => andAbsy w
  | .andAbsx w => andAbsx w
  | .eorIzx z => eorIzx z
  | .eorZp z => eorZp z
  | .eorImm v => eorImm v
  | .eorAbs w => eorAbs w
  | .eorIzy z => eorIzy z
  | .eorZpx z => eorZpx z
  | .eorAbsy w => eorAbsy w
  | .eorAbsx w => eorAbsx w
  | .oraIzx z => oraIzx z
  | .oraZp z => oraZp z
  | .oraImm v => oraImm v
  | .oraAbs w => oraAbs w
  | .oraIzy z => oraIzy z
  | .oraZpx z => oraZpx z
  | .oraAbsy w => oraAbsy w
  | .oraAbsx w => oraAbsx w
  | .bitZp z => bitZp z
  | .bitAbs w => bitAbs w
  | .adcIzx z => adcIzx z
  | .adcZp z => adcZp z
  | .adcImm v => adcImm v
  | .adcAbs w => adcAbs w
  | .adcIzy z => adcIzy z
  | .adcZpx z => adcZpx z
  | .adcAbsy w => adcAbsy w
  | .adcAbsx w => adcAbsx w
  | .sbcIzx z => sbcIzx z
  | .sbcZp z => sbcZp z
  | .sbcImm v => sbcImm v
  | .sbcAbs w => sbcAbs w
  | .sbcIzy z => sbcIzy z
  | .sbcZpx z => sbcZpx z
  | .sbcAbsy w => sbcAbsy w
  | .sbcAbsx w => sbcAbsx w
  | .cmpIzx z => cmpIzx z
  | .cmpZp z => cmpZp z
  | .cmpImm v => cmpImm v
  | .cmpAbs w => cmpAbs w
  | .cmpIzy z => cmpIzy z
  | .cmpZpx z => cmpZpx z
  | .cmpAbsy w => cmpAbsy w
  | .cmpAbsx w => cmpAbsx w
  | .cpxImm v => cpxImm v
  | .cpxZp z => cpxZp z
  | .cpxAbs w => cpxAbs w
  | .cpyImm v => cpyImm v
  | .cpyZp z => cpyZp z
  | .cpyAbs w => cpyAbs w
  | .incZp z => incZp z
  | .incAbs w => incAbs w
  | .incZpx z => incZpx z
  | .incAbsx w => incAbsx w
  | .decZp z => decZp z
  | .decAbs w => decAbs w
  | .decZpx z => decZpx z
  | .decAbsx w => decAbsx w
  | .inx => inx
  | .iny => iny
  | .dex => dex
  | .dey => dey
  | .aslZp z => aslZp z
  | .aslA => aslA
  | .aslAbs w => aslAbs w
  | .aslZpx z => aslZpx z
  | .aslAbsx w => aslAbsx w
  | .lsrZp z => lsrZp z
  | .lsrA => lsrA
  | .lsrAbs w => lsrAbs w
  | .lsrZpx z => lsrZpx z
  | .lsrAbsx w => lsrAbsx w
  | .rolZp z => rolZp z
  | .rolA => rolA
  | .rolAbs w => rolAbs w
  | .rolZpx z => rolZpx z
  | .rolAbsx w => rolAbsx w
  | .rorZp z => rorZp z
  | .rorA => rorA
  | .rorAbs w => rorAbs w
  | .rorZpx z => rorZpx z
  | .rorAbsx w => rorAbsx w
  | .clc => clc
  | .sec => sec
  | .clv => clv
  | .nop => nop

end Sys2Proof.Laws.Encoded
end

