-- ==== Sys2Proof/Tests/Slice0.lean ====
section
/-! SUPPORT. Tests of the model. Every expected value is the spec's: encodings from spec/opcode_table.json and the
family files, results from 95_test_vectors.md, whose vector a test's name gives. -/

namespace Sys2Proof.Tests

open Sys2Proof.Machine Sys2Proof.Safety Sys2Proof.Claims

/-! ## Helpers -/

/-- The default start state of 95_test_vectors.md. -/
def start : State := State.reset

/-- The three boolean parameters of a vector. -/
def options (txs pla opt : Bool) : Params := { txsSetsNZ := txs, plaSetsNZ := pla, optFlagNop := opt }

/-- `[a]=v` of a vector. -/
def withCell (s : State) (cell : Nat × Byte) : State :=
  match s.write cell.1 cell.2 with
  | .ok t => t
  | .error _ => s

/-- The state with the vector's cells, then its bytes at PC. -/
def placed (s : State) (cells : List (Nat × Byte)) (bytes : List Byte) : State :=
  (bytes.zipIdx.map (fun p => (s.pc.toNat + p.2, p.1))).foldl withCell (cells.foldl withCell s)

/-- What `f` shows of the state after one step, if there is one. -/
def after {α : Type} (f : State → α) (s : State) (cells : List (Nat × Byte)) (bytes : List Byte) : Option α :=
  match step (placed s cells bytes) with
  | .next t => some (f t)
  | .fault _ => none
  | .refused _ => none

/-- The exception one step raises, if it does. -/
def stops (s : State) (cells : List (Nat × Byte)) (bytes : List Byte) : Option Fault :=
  match step (placed s cells bytes) with
  | .next _ => none
  | .fault e => some e
  | .refused _ => none

/-- What a read gives, if it does not raise. -/
def readOr (s : State) (addr : Nat) : Option Byte := (s.read addr).toOption

/-! ## Well-formedness: the one check, refused without OPT_FLAG_NOP for each of the four (R13, R170) -/

theorem test_wf_refuses_clc : Instr.wf false .clc = false := by decide
theorem test_wf_refuses_sec : Instr.wf false .sec = false := by decide
theorem test_wf_refuses_clv : Instr.wf false .clv = false := by decide
theorem test_wf_refuses_nop : Instr.wf false .nop = false := by decide
theorem test_wf_takes_the_four_with_the_option :
    ∀ i ∈ [Instr.clc, .sec, .clv, .nop], Instr.wf true i = true := by decide
theorem test_wf_takes_the_others : Instr.wf false (.ldaAbs 0xFFFF) = true ∧ Instr.wf false .tax = true := by decide

/-! ## Decoding: the word of every constructor, written out bit by bit

The opcode is the last group of eight bits; the operand byte is 00110100, an address operand the bytes 00110100
and 00010010, low byte first. -/

theorem test_decode_load_store_1 :
    decodeTableWord 16 0b00110100_10000001 = some (.staIzx 0x34) ∧
    decodeTableWord 16 0b00110100_10000100 = some (.styZp 0x34) ∧
    decodeTableWord 16 0b00110100_10000101 = some (.staZp 0x34) ∧
    decodeTableWord 16 0b00110100_10000110 = some (.stxZp 0x34) ∧
    decodeTableWord 24 0b00010010_00110100_10001100 = some (.styAbs 0x1234) ∧
    decodeTableWord 24 0b00010010_00110100_10001101 = some (.staAbs 0x1234) ∧
    decodeTableWord 24 0b00010010_00110100_10001110 = some (.stxAbs 0x1234) ∧
    decodeTableWord 16 0b00110100_10010001 = some (.staIzy 0x34) ∧
    decodeTableWord 16 0b00110100_10010100 = some (.styZpx 0x34) ∧
    decodeTableWord 16 0b00110100_10010101 = some (.staZpx 0x34) ∧
    decodeTableWord 16 0b00110100_10010110 = some (.stxZpy 0x34) ∧
    decodeTableWord 24 0b00010010_00110100_10011001 = some (.staAbsy 0x1234) ∧
    decodeTableWord 24 0b00010010_00110100_10011101 = some (.staAbsx 0x1234) ∧
    decodeTableWord 16 0b00110100_10100000 = some (.ldyImm 0x34) := by
  decide

theorem test_decode_load_store_2 :
    decodeTableWord 16 0b00110100_10100001 = some (.ldaIzx 0x34) ∧
    decodeTableWord 16 0b00110100_10100010 = some (.ldxImm 0x34) ∧
    decodeTableWord 16 0b00110100_10100100 = some (.ldyZp 0x34) ∧
    decodeTableWord 16 0b00110100_10100101 = some (.ldaZp 0x34) ∧
    decodeTableWord 16 0b00110100_10100110 = some (.ldxZp 0x34) ∧
    decodeTableWord 16 0b00110100_10101001 = some (.ldaImm 0x34) ∧
    decodeTableWord 24 0b00010010_00110100_10101100 = some (.ldyAbs 0x1234) ∧
    decodeTableWord 24 0b00010010_00110100_10101101 = some (.ldaAbs 0x1234) ∧
    decodeTableWord 24 0b00010010_00110100_10101110 = some (.ldxAbs 0x1234) ∧
    decodeTableWord 16 0b00110100_10110001 = some (.ldaIzy 0x34) ∧
    decodeTableWord 16 0b00110100_10110100 = some (.ldyZpx 0x34) ∧
    decodeTableWord 16 0b00110100_10110101 = some (.ldaZpx 0x34) ∧
    decodeTableWord 16 0b00110100_10110110 = some (.ldxZpy 0x34) ∧
    decodeTableWord 24 0b00010010_00110100_10111001 = some (.ldaAbsy 0x1234) := by
  decide

theorem test_decode_load_store_3 :
    decodeTableWord 24 0b00010010_00110100_10111100 = some (.ldyAbsx 0x1234) ∧
    decodeTableWord 24 0b00010010_00110100_10111101 = some (.ldaAbsx 0x1234) ∧
    decodeTableWord 24 0b00010010_00110100_10111110 = some (.ldxAbsy 0x1234) := by
  decide

theorem test_decode_transfer :
    decodeTableWord 8 0b10001010 = some .txa ∧
    decodeTableWord 8 0b10011000 = some .tya ∧
    decodeTableWord 8 0b10011010 = some .txs ∧
    decodeTableWord 8 0b10101000 = some .tay ∧
    decodeTableWord 8 0b10101010 = some .tax ∧
    decodeTableWord 8 0b10111010 = some .tsx := by
  decide

theorem test_decode_stack :
    decodeTableWord 8 0b00001000 = some .php ∧
    decodeTableWord 8 0b00101000 = some .plp ∧
    decodeTableWord 8 0b01001000 = some .pha ∧
    decodeTableWord 8 0b01101000 = some .pla := by
  decide

theorem test_decode_logical_1 :
    decodeTableWord 16 0b00110100_00000001 = some (.oraIzx 0x34) ∧
    decodeTableWord 16 0b00110100_00000101 = some (.oraZp 0x34) ∧
    decodeTableWord 16 0b00110100_00001001 = some (.oraImm 0x34) ∧
    decodeTableWord 24 0b00010010_00110100_00001101 = some (.oraAbs 0x1234) ∧
    decodeTableWord 16 0b00110100_00010001 = some (.oraIzy 0x34) ∧
    decodeTableWord 16 0b00110100_00010101 = some (.oraZpx 0x34) ∧
    decodeTableWord 24 0b00010010_00110100_00011001 = some (.oraAbsy 0x1234) ∧
    decodeTableWord 24 0b00010010_00110100_00011101 = some (.oraAbsx 0x1234) ∧
    decodeTableWord 16 0b00110100_00100001 = some (.andIzx 0x34) ∧
    decodeTableWord 16 0b00110100_00100100 = some (.bitZp 0x34) ∧
    decodeTableWord 16 0b00110100_00100101 = some (.andZp 0x34) ∧
    decodeTableWord 16 0b00110100_00101001 = some (.andImm 0x34) ∧
    decodeTableWord 24 0b00010010_00110100_00101100 = some (.bitAbs 0x1234) ∧
    decodeTableWord 24 0b00010010_00110100_00101101 = some (.andAbs 0x1234) := by
  decide

theorem test_decode_logical_2 :
    decodeTableWord 16 0b00110100_00110001 = some (.andIzy 0x34) ∧
    decodeTableWord 16 0b00110100_00110101 = some (.andZpx 0x34) ∧
    decodeTableWord 24 0b00010010_00110100_00111001 = some (.andAbsy 0x1234) ∧
    decodeTableWord 24 0b00010010_00110100_00111101 = some (.andAbsx 0x1234) ∧
    decodeTableWord 16 0b00110100_01000001 = some (.eorIzx 0x34) ∧
    decodeTableWord 16 0b00110100_01000101 = some (.eorZp 0x34) ∧
    decodeTableWord 16 0b00110100_01001001 = some (.eorImm 0x34) ∧
    decodeTableWord 24 0b00010010_00110100_01001101 = some (.eorAbs 0x1234) ∧
    decodeTableWord 16 0b00110100_01010001 = some (.eorIzy 0x34) ∧
    decodeTableWord 16 0b00110100_01010101 = some (.eorZpx 0x34) ∧
    decodeTableWord 24 0b00010010_00110100_01011001 = some (.eorAbsy 0x1234) ∧
    decodeTableWord 24 0b00010010_00110100_01011101 = some (.eorAbsx 0x1234) := by
  decide

theorem test_decode_arithmetic_1 :
    decodeTableWord 16 0b00110100_01100001 = some (.adcIzx 0x34) ∧
    decodeTableWord 16 0b00110100_01100101 = some (.adcZp 0x34) ∧
    decodeTableWord 16 0b00110100_01101001 = some (.adcImm 0x34) ∧
    decodeTableWord 24 0b00010010_00110100_01101101 = some (.adcAbs 0x1234) ∧
    decodeTableWord 16 0b00110100_01110001 = some (.adcIzy 0x34) ∧
    decodeTableWord 16 0b00110100_01110101 = some (.adcZpx 0x34) ∧
    decodeTableWord 24 0b00010010_00110100_01111001 = some (.adcAbsy 0x1234) ∧
    decodeTableWord 24 0b00010010_00110100_01111101 = some (.adcAbsx 0x1234) ∧
    decodeTableWord 8 0b10001000 = some .dey ∧
    decodeTableWord 16 0b00110100_11000000 = some (.cpyImm 0x34) ∧
    decodeTableWord 16 0b00110100_11000001 = some (.cmpIzx 0x34) ∧
    decodeTableWord 16 0b00110100_11000100 = some (.cpyZp 0x34) ∧
    decodeTableWord 16 0b00110100_11000101 = some (.cmpZp 0x34) ∧
    decodeTableWord 16 0b00110100_11000110 = some (.decZp 0x34) := by
  decide

theorem test_decode_arithmetic_2 :
    decodeTableWord 8 0b11001000 = some .iny ∧
    decodeTableWord 16 0b00110100_11001001 = some (.cmpImm 0x34) ∧
    decodeTableWord 8 0b11001010 = some .dex ∧
    decodeTableWord 24 0b00010010_00110100_11001100 = some (.cpyAbs 0x1234) ∧
    decodeTableWord 24 0b00010010_00110100_11001101 = some (.cmpAbs 0x1234) ∧
    decodeTableWord 24 0b00010010_00110100_11001110 = some (.decAbs 0x1234) ∧
    decodeTableWord 16 0b00110100_11010001 = some (.cmpIzy 0x34) ∧
    decodeTableWord 16 0b00110100_11010101 = some (.cmpZpx 0x34) ∧
    decodeTableWord 16 0b00110100_11010110 = some (.decZpx 0x34) ∧
    decodeTableWord 24 0b00010010_00110100_11011001 = some (.cmpAbsy 0x1234) ∧
    decodeTableWord 24 0b00010010_00110100_11011101 = some (.cmpAbsx 0x1234) ∧
    decodeTableWord 24 0b00010010_00110100_11011110 = some (.decAbsx 0x1234) ∧
    decodeTableWord 16 0b00110100_11100000 = some (.cpxImm 0x34) ∧
    decodeTableWord 16 0b00110100_11100001 = some (.sbcIzx 0x34) := by
  decide

theorem test_decode_arithmetic_3 :
    decodeTableWord 16 0b00110100_11100100 = some (.cpxZp 0x34) ∧
    decodeTableWord 16 0b00110100_11100101 = some (.sbcZp 0x34) ∧
    decodeTableWord 16 0b00110100_11100110 = some (.incZp 0x34) ∧
    decodeTableWord 8 0b11101000 = some .inx ∧
    decodeTableWord 16 0b00110100_11101001 = some (.sbcImm 0x34) ∧
    decodeTableWord 24 0b00010010_00110100_11101100 = some (.cpxAbs 0x1234) ∧
    decodeTableWord 24 0b00010010_00110100_11101101 = some (.sbcAbs 0x1234) ∧
    decodeTableWord 24 0b00010010_00110100_11101110 = some (.incAbs 0x1234) ∧
    decodeTableWord 16 0b00110100_11110001 = some (.sbcIzy 0x34) ∧
    decodeTableWord 16 0b00110100_11110101 = some (.sbcZpx 0x34) ∧
    decodeTableWord 16 0b00110100_11110110 = some (.incZpx 0x34) ∧
    decodeTableWord 24 0b00010010_00110100_11111001 = some (.sbcAbsy 0x1234) ∧
    decodeTableWord 24 0b00010010_00110100_11111101 = some (.sbcAbsx 0x1234) ∧
    decodeTableWord 24 0b00010010_00110100_11111110 = some (.incAbsx 0x1234) := by
  decide

theorem test_decode_shift_1 :
    decodeTableWord 16 0b00110100_00000110 = some (.aslZp 0x34) ∧
    decodeTableWord 8 0b00001010 = some .aslA ∧
    decodeTableWord 24 0b00010010_00110100_00001110 = some (.aslAbs 0x1234) ∧
    decodeTableWord 16 0b00110100_00010110 = some (.aslZpx 0x34) ∧
    decodeTableWord 24 0b00010010_00110100_00011110 = some (.aslAbsx 0x1234) ∧
    decodeTableWord 16 0b00110100_00100110 = some (.rolZp 0x34) ∧
    decodeTableWord 8 0b00101010 = some .rolA ∧
    decodeTableWord 24 0b00010010_00110100_00101110 = some (.rolAbs 0x1234) ∧
    decodeTableWord 16 0b00110100_00110110 = some (.rolZpx 0x34) ∧
    decodeTableWord 24 0b00010010_00110100_00111110 = some (.rolAbsx 0x1234) ∧
    decodeTableWord 16 0b00110100_01000110 = some (.lsrZp 0x34) ∧
    decodeTableWord 8 0b01001010 = some .lsrA ∧
    decodeTableWord 24 0b00010010_00110100_01001110 = some (.lsrAbs 0x1234) ∧
    decodeTableWord 16 0b00110100_01010110 = some (.lsrZpx 0x34) := by
  decide

theorem test_decode_shift_2 :
    decodeTableWord 24 0b00010010_00110100_01011110 = some (.lsrAbsx 0x1234) ∧
    decodeTableWord 16 0b00110100_01100110 = some (.rorZp 0x34) ∧
    decodeTableWord 8 0b01101010 = some .rorA ∧
    decodeTableWord 24 0b00010010_00110100_01101110 = some (.rorAbs 0x1234) ∧
    decodeTableWord 16 0b00110100_01110110 = some (.rorZpx 0x34) ∧
    decodeTableWord 24 0b00010010_00110100_01111110 = some (.rorAbsx 0x1234) := by
  decide

theorem test_decode_optional :
    decodeTableWord 8 0b00011000 = some .clc ∧
    decodeTableWord 8 0b00111000 = some .sec ∧
    decodeTableWord 8 0b10111000 = some .clv ∧
    decodeTableWord 8 0b11101010 = some .nop := by
  decide

/-- 0x58, 0x78, 0xD8 and 0xF8 are absent under either setting, and the four optional without it (R66, R170). -/
theorem test_decode_refuses :
    (∀ op ∈ [0x58#8, 0x78#8, 0xD8#8, 0xF8#8, 0x00#8, 0x89#8], lookup true op = none) ∧
      (∀ op ∈ [0x18#8, 0x38#8, 0xB8#8, 0xEA#8], lookup false op = none) := by
  simp only [List.forall_mem_cons]
  exact ⟨⟨rfl, rfl, rfl, rfl, rfl, rfl, by simp⟩, rfl, rfl, rfl, rfl, by simp⟩

theorem test_decode_rejects_by_name : decode true [0x58] = .error (.absent 0x58) := rfl
theorem test_decode_of_a_cut_word : decode true [0xAD, 0x34] = .error .truncated := rfl

/-! ## Worked examples of the source (section 1) -/

theorem test_S4_ldaImm :
    after (fun t => (t.a, [t.z, t.n], t.pc, t.lastCycles)) { start with pc := 0x0300 } [] [0xA9, 0x0A] =
      some (0x0A, [false, false], 0x0302, 2) := by
  decide

theorem test_S5_ldaImm :
    after (fun t => (t.a, [t.z, t.n], t.pc, t.lastCycles)) { start with a := 0x55, pc := 0x0300 } [] [0xA9, 0x00] =
      some (0x00, [true, false], 0x0302, 2) := by
  decide

theorem test_S7a_ldaAbsx :
    after (fun t => (t.a, [t.z, t.n], t.pc, t.lastCycles)) { start with x := 0x10 }
      [(0x0210, 0x33), (0x0300, 0x33)] [0xBD, 0x00, 0x02] =
      some (0x33, [false, false], 0x0203, 4) := by
  decide

theorem test_S7b_ldaAbsx :
    after (fun t => (t.a, [t.z, t.n], t.pc, t.lastCycles)) { start with x := 0x10 }
      [(0x0210, 0x33), (0x0300, 0x33)] [0xBD, 0xF0, 0x02] =
      some (0x33, [false, false], 0x0203, 5) := by
  decide

theorem test_S10_ldaZpx :
    after (fun t => (t.a, [t.z, t.n], t.pc, t.lastCycles)) { start with x := 0x02 }
      [(0x0001, 0x77), (0x0101, 0x88)] [0xB5, 0xFF] =
      some (0x77, [false, false], 0x0202, 4) := by
  decide

/-! ## Addressing modes -/

theorem test_VA1_ldaZp :
    after (fun t => (t.a, [t.z, t.n], t.pc, t.lastCycles)) start [(0x0042, 0x99)] [0xA5, 0x42] =
      some (0x99, [false, true], 0x0202, 3) := by
  decide

theorem test_VA3_ldxZpy :
    after (fun t => (t.x, [t.z, t.n], t.pc, t.lastCycles)) { start with y := 0x90 } [(0x0010, 0x11)] [0xB6, 0x80] =
      some (0x11, [false, false], 0x0202, 4) := by
  decide

theorem test_VA4_ldaAbs :
    after (fun t => (t.a, [t.z, t.n], t.pc, t.lastCycles)) start [(0x0234, 0x5C)] [0xAD, 0x34, 0x12] =
      some (0x5C, [false, false], 0x0203, 4) := by
  decide

theorem test_VA8_ldaAbsy :
    after (fun t => (t.a, [t.z, t.n], t.pc, t.lastCycles)) { start with y := 0x01 } [] [0xB9, 0xFF, 0x01] =
      some (0xB9, [false, true], 0x0203, 5) := by
  decide

theorem test_VA9_ldaIzx :
    after (fun t => (t.a, [t.z, t.n], t.pc, t.lastCycles)) { start with x := 0x01 }
      [(0x0000, 0x03), (0x00FF, 0x00), (0x0300, 0x66)] [0xA1, 0xFE] =
      some (0x66, [false, false], 0x0202, 6) := by
  decide

theorem test_VA10_ldaIzy :
    after (fun t => (t.a, [t.z, t.n], t.pc, t.lastCycles)) { start with y := 0x20 }
      [(0x0020, 0xF0), (0x0021, 0x02), (0x0310, 0x01)] [0xB1, 0x20] =
      some (0x01, [false, false], 0x0202, 6) := by
  decide

theorem test_VA11_ldaIzy :
    after (fun t => (t.a, [t.z, t.n], t.pc, t.lastCycles)) start
      [(0x0000, 0x04), (0x00FF, 0x10), (0x0410, 0x80)] [0xB1, 0xFF] =
      some (0x80, [false, true], 0x0202, 5) := by
  decide

theorem test_VA13_staAbsx :
    after (fun t => (t.mem.cell 0x300, t.pc, t.lastCycles)) { start with a := 0x44, x := 0x10 }
      [] [0x9D, 0xF0, 0x02] =
      some (0x44, 0x0203, 5) := by
  decide

theorem test_VA14_staIzy :
    after (fun t => (t.mem.cell 0x310, t.pc, t.lastCycles)) { start with a := 0x44, y := 0x20 }
      [(0x0020, 0xF0), (0x0021, 0x02)] [0x91, 0x20] =
      some (0x44, 0x0202, 6) := by
  decide

theorem test_VA15_ldxAbsy :
    after (fun t => (t.x, [t.z, t.n], t.pc, t.lastCycles)) { start with y := 0x05 }
      [(0x0305, 0x00)] [0xBE, 0x00, 0x03] =
      some (0x00, [true, false], 0x0203, 4) := by
  decide

theorem test_VA16_oraAbsx :
    stops { start with x := 0x80 } [] [0x1D, 0x80, 0x1F] = some (.outOfRange 0x2000) := by
  decide

theorem test_VA17_rorAbsx :
    after (fun t => (t.mem.cell 0x200, [t.c, t.z, t.n], t.pc, t.lastCycles)) { start with x := 0x80, c := true }
      [] [0x7E, 0x80, 0x01] =
      some (0xBF, [false, false, true], 0x0203, 7) := by
  decide

/-! ## Loads and stores -/

theorem test_VL3_ldxImm :
    after (fun t => (t.x, [t.z, t.n], t.pc, t.lastCycles)) start [] [0xA2, 0xFF] =
      some (0xFF, [false, true], 0x0202, 2) := by
  decide

theorem test_VL4_ldyZp :
    after (fun t => (t.y, [t.z, t.n], t.pc, t.lastCycles)) { start with y := 0x33 } [(0x0010, 0x00)] [0xA4, 0x10] =
      some (0x00, [true, false], 0x0202, 3) := by
  decide

theorem test_VL5_ldyAbs :
    after (fun t => (t.y, [t.z, t.n], t.pc, t.lastCycles)) start [(0x07FF, 0x7E)] [0xAC, 0xFF, 0x1F] =
      some (0x7E, [false, false], 0x0203, 4) := by
  decide

theorem test_VL6_ldyAbsx :
    after (fun t => (t.y, [t.z, t.n], t.pc, t.lastCycles)) { start with x := 0x01 }
      [(0x0011, 0x01)] [0xBC, 0x10, 0x00] =
      some (0x01, [false, false], 0x0203, 4) := by
  decide

theorem test_VL7_staAbs :
    after (fun t => (t.mem.cell 0x005, t.pc, t.lastCycles)) { start with a := 0x55 } [] [0x8D, 0x05, 0x08] =
      some (0x55, 0x0203, 4) := by
  decide

theorem test_VL8_stxZpy :
    after (fun t => (t.mem.cell 0x000, t.pc, t.lastCycles)) { start with x := 0x07, y := 0x01 } [] [0x96, 0xFF] =
      some (0x07, 0x0202, 4) := by
  decide

theorem test_VL9_styZpx :
    after (fun t => (t.mem.cell 0x010, t.pc, t.lastCycles)) { start with x := 0x20, y := 0x09 } [] [0x94, 0xF0] =
      some (0x09, 0x0202, 4) := by
  decide

theorem test_VL10_styAbs :
    stops { start with y := 0x09 } [] [0x8C, 0x00, 0x20] = some (.outOfRange 0x2000) := by
  decide

theorem test_VL11_staIzx :
    after (fun t => (t.mem.cell 0x700, t.pc, t.lastCycles)) { start with a := 0xAB, x := 0x04 }
      [(0x0014, 0x00), (0x0015, 0x07)] [0x81, 0x10] =
      some (0xAB, 0x0202, 6) := by
  decide

theorem test_VL12_staZp :
    after (fun t => (t.mem.cell 0x010, t.pc, t.lastCycles)) { start with n := true } [(0x0010, 0xEE)] [0x85, 0x10] =
      some (0x00, 0x0202, 3) := by
  decide

theorem test_VL13_stxAbs :
    after (fun t => (t.mem.cell 0x7FF, t.pc, t.lastCycles)) { start with x := 0x3C } [] [0x8E, 0xFF, 0x1F] =
      some (0x3C, 0x0203, 4) := by
  decide

theorem test_VL14_ldaAbs :
    stops start [] [0xAD, 0x00, 0x20] = some (.outOfRange 0x2000) := by
  decide

/-! ## Transfers -/

theorem test_VT1_tax :
    after (fun t => (t.x, [t.z, t.n], t.pc, t.lastCycles)) { start with a := 0x80 } [] [0xAA] =
      some (0x80, [false, true], 0x0201, 2) := by
  decide

theorem test_VT2_tax :
    after (fun t => (t.x, [t.z, t.n], t.pc, t.lastCycles)) { start with x := 0x12 } [] [0xAA] =
      some (0x00, [true, false], 0x0201, 2) := by
  decide

theorem test_VT3_tay :
    after (fun t => (t.y, [t.z, t.n], t.pc, t.lastCycles)) { start with a := 0x01 } [] [0xA8] =
      some (0x01, [false, false], 0x0201, 2) := by
  decide

theorem test_VT4_txa :
    after (fun t => (t.a, [t.z, t.n], t.pc, t.lastCycles)) { start with x := 0xFF } [] [0x8A] =
      some (0xFF, [false, true], 0x0201, 2) := by
  decide

theorem test_VT5_tya :
    after (fun t => (t.a, [t.z, t.n], t.pc, t.lastCycles)) { start with a := 0x77 } [] [0x98] =
      some (0x00, [true, false], 0x0201, 2) := by
  decide

theorem test_VT6_tsx :
    after (fun t => (t.x, [t.z, t.n], t.pc, t.lastCycles)) { start with sp := 0xFD } [] [0xBA] =
      some (0xFD, [false, true], 0x0201, 2) := by
  decide

theorem test_VT7_tsx :
    after (fun t => (t.x, [t.z, t.n], t.pc, t.lastCycles)) { start with x := 0x05, sp := 0x00 } [] [0xBA] =
      some (0x00, [true, false], 0x0201, 2) := by
  decide

theorem test_VT8_txs :
    after (fun t => (t.sp, [t.z, t.n], t.pc, t.lastCycles)) start [] [0x9A] =
      some (0x00, [true, false], 0x0201, 2) := by
  decide

theorem test_VT9_txs :
    after (fun t => (t.sp, t.pc, t.lastCycles)) { start with params := options false false false } [] [0x9A] =
      some (0x00, 0x0201, 2) := by
  decide

/-! ## Stack -/

theorem test_VK1_pha :
    after (fun t => (t.sp, t.mem.cell 0x1FF, t.pc, t.lastCycles)) { start with a := 0x3C } [] [0x48] =
      some (0xFE, 0x3C, 0x0201, 3) := by
  decide

theorem test_VK2_pha :
    after (fun t => (t.sp, t.mem.cell 0x100, t.pc, t.lastCycles)) { start with a := 0x3C, sp := 0x00 } [] [0x48] =
      some (0xFF, 0x3C, 0x0201, 3) := by
  decide

theorem test_VK3_pla :
    after (fun t => (t.a, t.sp, t.pc, t.lastCycles)) { start with sp := 0xFE } [(0x01FF, 0x00)] [0x68] =
      some (0x00, 0xFF, 0x0201, 4) := by
  decide

theorem test_VK4_pla :
    after (fun t => (t.a, t.sp, [t.z, t.n], t.pc, t.lastCycles)) { start with sp := 0xFE, params := options true true false }
      [(0x01FF, 0x00)] [0x68] =
      some (0x00, 0xFF, [true, false], 0x0201, 4) := by
  decide

theorem test_VK6_php :
    after (fun t => (t.sp, t.mem.cell 0x1FF, t.pc, t.lastCycles)) { start with v := true, c := true } [] [0x08] =
      some (0xFE, 0x61, 0x0201, 3) := by
  decide

theorem test_VK7_php :
    after (fun t => (t.sp, t.mem.cell 0x180, t.pc, t.lastCycles)) { start with sp := 0x80, n := true, v := true, b := true, d := true, i := true, z := true, c := true }
      [] [0x08] =
      some (0x7F, 0xFF, 0x0201, 3) := by
  decide

theorem test_VK9_plp :
    after (fun t => (t.sp, [t.n, t.v, t.b, t.d, t.i, t.z, t.c], t.pc, t.lastCycles)) { start with sp := 0xFE }
      [(0x01FF, 0xFF)] [0x28] =
      some (0xFF, [true, true, true, true, true, true, true], 0x0201, 4) := by
  decide

theorem test_VK10_plp :
    after (fun t => (t.sp, [t.n, t.v, t.b, t.d, t.i, t.z, t.c], t.pc, t.lastCycles)) { start with sp := 0xFE, n := true, v := true, b := true, d := true, i := true, z := true, c := true }
      [(0x01FF, 0x20)] [0x28] =
      some (0xFF, [false, false, false, false, false, false, false], 0x0201, 4) := by
  decide

/-! ## Logical -/

theorem test_VG1_andImm :
    after (fun t => (t.a, [t.z, t.n], t.pc, t.lastCycles)) { start with a := 0xF0 } [] [0x29, 0x3C] =
      some (0x30, [false, false], 0x0202, 2) := by
  decide

theorem test_VG2_andImm :
    after (fun t => (t.a, [t.z, t.n], t.pc, t.lastCycles)) { start with a := 0xFF, v := true, c := true }
      [] [0x29, 0x00] =
      some (0x00, [true, false], 0x0202, 2) := by
  decide

theorem test_VG3_eorImm :
    after (fun t => (t.a, [t.z, t.n], t.pc, t.lastCycles)) { start with a := 0xF0 } [] [0x49, 0xFF] =
      some (0x0F, [false, false], 0x0202, 2) := by
  decide

theorem test_VG4_eorZp :
    after (fun t => (t.a, [t.z, t.n], t.pc, t.lastCycles)) { start with a := 0x5A } [(0x0010, 0x5A)] [0x45, 0x10] =
      some (0x00, [true, false], 0x0202, 3) := by
  decide

theorem test_VG5_oraImm :
    after (fun t => (t.a, [t.z, t.n], t.pc, t.lastCycles)) { start with a := 0x01 } [] [0x09, 0x80] =
      some (0x81, [false, true], 0x0202, 2) := by
  decide

theorem test_VG6_oraZp :
    after (fun t => (t.a, [t.z, t.n], t.pc, t.lastCycles)) start [(0x0010, 0x00)] [0x05, 0x10] =
      some (0x00, [true, false], 0x0202, 3) := by
  decide

theorem test_VG7_bitZp :
    after (fun t => ([t.n, t.v, t.z], t.pc, t.lastCycles)) { start with a := 0x0F } [(0x0010, 0xC0)] [0x24, 0x10] =
      some ([true, true, true], 0x0202, 3) := by
  decide

theorem test_VG8_bitAbs :
    after (fun t => ([t.n, t.v, t.z], t.pc, t.lastCycles)) { start with a := 0xFF, n := true, v := true, z := true }
      [(0x0300, 0x01)] [0x2C, 0x00, 0x03] =
      some ([false, false, false], 0x0203, 4) := by
  decide

theorem test_VG9_andIzy :
    after (fun t => (t.a, [t.z, t.n], t.pc, t.lastCycles)) { start with a := 0xFF, y := 0xFF }
      [(0x0020, 0x01), (0x0021, 0x03), (0x0400, 0x0F)] [0x31, 0x20] =
      some (0x0F, [false, false], 0x0202, 6) := by
  decide

/-! ## Arithmetic -/

theorem test_VR1_adcImm :
    after (fun t => (t.a, [t.c, t.z, t.v, t.n], t.pc, t.lastCycles)) { start with a := 0x50 } [] [0x69, 0x50] =
      some (0xA0, [false, false, true, true], 0x0202, 2) := by
  decide

theorem test_VR2_adcImm :
    after (fun t => (t.a, [t.c, t.z, t.v, t.n], t.pc, t.lastCycles)) { start with a := 0xFF, c := true }
      [] [0x69, 0x00] =
      some (0x00, [true, true, false, false], 0x0202, 2) := by
  decide

theorem test_VR8_sbcImm :
    after (fun t => (t.a, [t.c, t.z, t.v, t.n], t.pc, t.lastCycles)) { start with a := 0x05 } [] [0xE9, 0x03] =
      some (0x01, [true, false, false, false], 0x0202, 2) := by
  decide

theorem test_VR9_sbcImm :
    after (fun t => (t.a, [t.c, t.z, t.v, t.n], t.pc, t.lastCycles)) { start with c := true } [] [0xE9, 0x01] =
      some (0xFF, [false, false, false, true], 0x0202, 2) := by
  decide

theorem test_VR15_cmpImm :
    after (fun t => ([t.c, t.z, t.n], t.pc, t.lastCycles)) { start with a := 0x10 } [] [0xC9, 0x20] =
      some ([false, false, true], 0x0202, 2) := by
  decide

theorem test_VR16_cmpImm :
    after (fun t => ([t.c, t.z, t.n], t.pc, t.lastCycles)) { start with a := 0x42, v := true } [] [0xC9, 0x42] =
      some ([true, true, false], 0x0202, 2) := by
  decide

theorem test_VR19_cpxImm :
    after (fun t => ([t.c, t.z, t.n], t.pc, t.lastCycles)) { start with x := 0x20 } [] [0xE0, 0x10] =
      some ([true, false, false], 0x0202, 2) := by
  decide

theorem test_VR20_cpyImm :
    after (fun t => ([t.c, t.z, t.n], t.pc, t.lastCycles)) start [] [0xC0, 0x00] =
      some ([true, true, false], 0x0202, 2) := by
  decide

theorem test_VR21_cpxZp :
    after (fun t => ([t.c, t.z, t.n], t.pc, t.lastCycles)) { start with x := 0x01 } [(0x0010, 0xFF)] [0xE4, 0x10] =
      some ([false, false, false], 0x0202, 3) := by
  decide

theorem test_VR22_incZp :
    after (fun t => (t.mem.cell 0x010, [t.z, t.n], t.pc, t.lastCycles)) start [(0x0010, 0x7F)] [0xE6, 0x10] =
      some (0x80, [false, true], 0x0202, 5) := by
  decide

theorem test_VR23_incZp :
    after (fun t => (t.mem.cell 0x010, [t.z, t.n], t.pc, t.lastCycles)) start [(0x0010, 0xFF)] [0xE6, 0x10] =
      some (0x00, [true, false], 0x0202, 5) := by
  decide

theorem test_VR24_decZp :
    after (fun t => (t.mem.cell 0x010, [t.z, t.n], t.pc, t.lastCycles)) start [(0x0010, 0x01)] [0xC6, 0x10] =
      some (0x00, [true, false], 0x0202, 5) := by
  decide

theorem test_VR25_decZp :
    after (fun t => (t.mem.cell 0x010, [t.z, t.n], t.pc, t.lastCycles)) start [(0x0010, 0x00)] [0xC6, 0x10] =
      some (0xFF, [false, true], 0x0202, 5) := by
  decide

theorem test_VR26_incAbsx :
    after (fun t => (t.mem.cell 0x300, [t.z, t.n], t.pc, t.lastCycles)) { start with x := 0x10 }
      [(0x0300, 0x41)] [0xFE, 0xF0, 0x02] =
      some (0x42, [false, false], 0x0203, 7) := by
  decide

theorem test_VR27_incAbs :
    stops start [] [0xEE, 0x00, 0x20] = some (.outOfRange 0x2000) := by
  decide

theorem test_VR28_inx :
    after (fun t => (t.x, [t.z, t.n], t.pc, t.lastCycles)) { start with x := 0xFF, c := true } [] [0xE8] =
      some (0x00, [true, false], 0x0201, 2) := by
  decide

theorem test_VR29_inx :
    after (fun t => (t.x, [t.z, t.n], t.pc, t.lastCycles)) { start with x := 0x7F } [] [0xE8] =
      some (0x80, [false, true], 0x0201, 2) := by
  decide

theorem test_VR30_iny :
    after (fun t => (t.y, [t.z, t.n], t.pc, t.lastCycles)) start [] [0xC8] =
      some (0x01, [false, false], 0x0201, 2) := by
  decide

theorem test_VR31_dex :
    after (fun t => (t.x, [t.z, t.n], t.pc, t.lastCycles)) start [] [0xCA] =
      some (0xFF, [false, true], 0x0201, 2) := by
  decide

theorem test_VR32_dex :
    after (fun t => (t.x, [t.z, t.n], t.pc, t.lastCycles)) { start with x := 0x01 } [] [0xCA] =
      some (0x00, [true, false], 0x0201, 2) := by
  decide

theorem test_VR33_dey :
    after (fun t => (t.y, [t.z, t.n], t.pc, t.lastCycles)) { start with y := 0x80 } [] [0x88] =
      some (0x7F, [false, false], 0x0201, 2) := by
  decide

theorem test_VR34_adcIzy :
    after (fun t => (t.a, [t.c, t.z, t.v, t.n], t.pc, t.lastCycles)) { start with a := 0x01, y := 0x10 }
      [(0x0020, 0xF8), (0x0021, 0x02), (0x0308, 0x01)] [0x71, 0x20] =
      some (0x02, [false, false, false, false], 0x0202, 6) := by
  decide

/-! ## Shifts and rotates -/

theorem test_VH1_aslA :
    after (fun t => (t.a, [t.c, t.z, t.n], t.pc, t.lastCycles)) { start with a := 0x80 } [] [0x0A] =
      some (0x00, [true, true, false], 0x0201, 2) := by
  decide

theorem test_VH2_aslA :
    after (fun t => (t.a, [t.c, t.z, t.n], t.pc, t.lastCycles)) { start with a := 0x41 } [] [0x0A] =
      some (0x82, [false, false, true], 0x0201, 2) := by
  decide

theorem test_VH3_aslZp :
    after (fun t => (t.mem.cell 0x010, [t.c, t.z, t.n], t.pc, t.lastCycles)) start [(0x0010, 0xFF)] [0x06, 0x10] =
      some (0xFE, [true, false, true], 0x0202, 5) := by
  decide

theorem test_VH4_lsrZp :
    after (fun t => (t.mem.cell 0x020, [t.c, t.z, t.n], t.pc, t.lastCycles)) start [(0x0020, 0x81)] [0x46, 0x20] =
      some (0x40, [true, false, false], 0x0202, 5) := by
  decide

theorem test_VH5_lsrA :
    after (fun t => (t.a, [t.c, t.z, t.n], t.pc, t.lastCycles)) { start with a := 0x01 } [] [0x4A] =
      some (0x00, [true, true, false], 0x0201, 2) := by
  decide

theorem test_VH6_rolA :
    after (fun t => (t.a, [t.c, t.z, t.n], t.pc, t.lastCycles)) { start with a := 0x80 } [] [0x2A] =
      some (0x00, [true, true, false], 0x0201, 2) := by
  decide

theorem test_VH7_rolA :
    after (fun t => (t.a, [t.c, t.z, t.n], t.pc, t.lastCycles)) { start with a := 0x40, c := true } [] [0x2A] =
      some (0x81, [false, false, true], 0x0201, 2) := by
  decide

theorem test_VH9_rorA :
    after (fun t => (t.a, [t.c, t.z, t.n], t.pc, t.lastCycles)) { start with a := 0x01 } [] [0x6A] =
      some (0x00, [true, true, false], 0x0201, 2) := by
  decide

theorem test_VH10_rorA :
    after (fun t => (t.a, [t.c, t.z, t.n], t.pc, t.lastCycles)) { start with c := true } [] [0x6A] =
      some (0x80, [false, false, true], 0x0201, 2) := by
  decide

theorem test_VH12_rolZpx :
    after (fun t => (t.mem.cell 0x001, [t.c, t.z, t.n], t.pc, t.lastCycles)) { start with x := 0x02, c := true }
      [(0x0001, 0x80)] [0x36, 0xFF] =
      some (0x01, [true, false, false], 0x0202, 6) := by
  decide

theorem test_VH13_rorAbsx :
    after (fun t => (t.mem.cell 0x000, [t.c, t.z, t.n], t.pc, t.lastCycles)) { start with x := 0x01 }
      [(0x0000, 0x01)] [0x7E, 0xFF, 0x07] =
      some (0x00, [true, true, false], 0x0203, 7) := by
  decide

theorem test_VH14_lsrAbsx :
    stops { start with x := 0x01 } [] [0x5E, 0xFF, 0x1F] = some (.outOfRange 0x2000) := by
  decide

/-! ## Optional instructions -/

theorem test_VO1_clc :
    after (fun t => ([t.c], t.pc, t.lastCycles)) { start with c := true, params := options true false true }
      [] [0x18] =
      some ([false], 0x0201, 2) := by
  decide

theorem test_VO2_sec :
    after (fun t => ([t.c], t.pc, t.lastCycles)) { start with params := options true false true } [] [0x38] =
      some ([true], 0x0201, 2) := by
  decide

theorem test_VO3_clv :
    after (fun t => ([t.v], t.pc, t.lastCycles)) { start with v := true, params := options true false true }
      [] [0xB8] =
      some ([false], 0x0201, 2) := by
  decide

theorem test_VO4_nop :
    after (fun t => (t.pc, t.lastCycles)) { start with a := 0x12, z := true, params := options true false true }
      [] [0xEA] =
      some (0x0201, 2) := by
  decide

theorem test_VO5_clc :
    stops { start with c := true } [] [0x18] = some (.unimplementedOpcode 0x18) := by
  decide

theorem test_VO6_nop :
    stops start [] [0xEA] = some (.unimplementedOpcode 0xEA) := by
  decide

theorem test_VO7_absent :
    stops { start with params := options true false true } [] [0x58] = some (.unimplementedOpcode 0x58) := by
  decide

/-! ## Exceptions -/

theorem test_VE1_absent :
    stops start [] [0x00] = some (.unimplementedOpcode 0x00) := by
  decide

theorem test_VE2_absent :
    stops start [] [0x02] = some (.unimplementedOpcode 0x02) := by
  decide

theorem test_VE3_absent :
    stops start [] [0x4C, 0x00, 0x03] = some (.unimplementedOpcode 0x4C) := by
  decide

theorem test_VE4_absent :
    stops start [] [0x89, 0x00] = some (.unimplementedOpcode 0x89) := by
  decide

theorem test_VE5_absent :
    stops start [] [0x9C, 0x00, 0x03] = some (.unimplementedOpcode 0x9C) := by
  decide

theorem test_VE6_absent :
    stops start [] [0xF8] = some (.unimplementedOpcode 0xF8) := by
  decide

theorem test_VE7_absent :
    stops start [] [0xFF] = some (.unimplementedOpcode 0xFF) := by
  decide

theorem test_VE9_staZp :
    stops { start with a := 0x01, pc := 0x1FFF } [] [0x85, 0x10] = some (.outOfRange 0x2000) := by
  decide

theorem test_VE10_incAbsx :
    stops { start with x := 0x01 } [] [0xFE, 0xFF, 0x1F] = some (.outOfRange 0x2000) := by
  decide

/-! ## The caller's operations (section 1 of 95_test_vectors.md) -/

/-- S1a: the four mirrors of 0x0123. -/
theorem test_S1a_mirrors :
    (([0x0123, 0x0923, 0x1123, 0x1923].map (readOr (withCell start (0x0123, 0xA5)))) =
      [some 0xA5, some 0xA5, some 0xA5, some 0xA5]) := by decide

/-- S1d: a write through a mirror. -/
theorem test_S1d_write_through_a_mirror : readOr (withCell start (0x1923, 0x3C)) 0x0123 = some 0x3C := by decide

/-- S3a, S3b, S3c, S3e: the addresses around the end of the window; nothing above 16 bits is masked. -/
theorem test_S3_out_of_range :
    start.read 0x2000 = .error (.outOfRange 0x2000) ∧ start.read 0xFFFF = .error (.outOfRange 0xFFFF) ∧
      start.read 0x10000 = .error (.outOfRange 0x10000) ∧ start.read 0x1FFF = .ok 0 := ⟨rfl, rfl, rfl, rfl⟩

/-- S3d: an out-of-range write. -/
theorem test_S3d_write : start.write 0x2000 0x12 = .error (.outOfRange 0x2000) := rfl

/-- S9b, S9d, S9j: the packed status byte. -/
theorem test_S9_pack :
    ({ start with n := true, v := true, b := true, d := true, i := true, z := true, c := true }).packStatus = 0xFF ∧
      ({ start with z := true }).packStatus = 0x22 ∧
      ({ start with n := true, v := true, z := true, c := true }).packStatus = 0xE3 := by decide

/-- S9k: bit 5 is packed as 1 whatever was unpacked. -/
theorem test_S9k_unpack : (start.unpackStatus 0x00).packStatus = 0x20 := by decide

/-- R28, R36: the helpers of SP and PC wrap. -/
theorem test_register_helpers_wrap :
    ({ start with sp := 0xFF }).incrementSP.sp = 0x00 ∧ ({ start with sp := 0x00 }).decrementSP.sp = 0xFF ∧
      ({ start with pc := 0xFFFF }).advancePC.1 = 0xFFFF ∧ ({ start with pc := 0xFFFF }).advancePC.2.pc = 0 := by
  decide

/-- R36: a flag setter writes its flag alone. -/
theorem test_set_flag : (hostCall 0 (.setFlag .v true) start).2 = { start with v := true } := by decide

/-- R63, R209: what a lookup tells the caller. -/
theorem test_lookup_of_lda_absolute_x :
    (hostCall 0 (.lookup 0xBD) start).1 =
      .descriptor (some { opcode := 0xBD, assemblerFormat := "LDA $hhll,X", operandLength := 3,
                          behavior := { resolver := .absoluteX, operation := .lda }, cycles := ⟨4, true⟩ }) ∧
      (hostCall 0 (.lookup 0x58) start).1 = .descriptor none := by decide

/-- R93: invoking a descriptor's behaviour is the instruction (S4); no row has STA Immediate. -/
theorem test_invoke_behavior :
    (((placed start [] [0xA9, 0x0A]).invoke { resolver := .immediate, operation := .lda }).map
        (fun r => match r with
          | .next t => (t.a, t.pc, t.lastCycles)
          | .fault _ => (0, 0, 0)
          | .refused _ => (0, 0, 0))) = some (0x0A, 0x0202, 2) ∧
      (start.invoke { resolver := .immediate, operation := .sta }).isNone = true := by decide

/-- R14, D16: an entry of CYCLES takes the place of the default, its count and its mark both. -/
theorem test_cycles_is_a_table_parameter :
    let s := { start with x := 0x10, params := { start.params with cycles := [(0xBD, ⟨7, false⟩)] } }
    after (fun t => t.lastCycles) s [] [0xBD, 0xF0, 0x02] = some 7 ∧
      after (fun t => t.lastCycles) s [] [0xA9, 0x00] = some 2 := by decide

/-- R184, R205: a run that faults inside `execute` stops with PC within the instruction, where `free` says; one
whose opcode fetch faults stops with PC where it was. -/
theorem test_run_stops_after_a_fault :
    ((run 0x0300 0 5 (placed start [] [0xAD, 0x00, 0x20])).1.pc = 0x0201 ∧
        (run 0x0300 2 5 (placed start [] [0xAD, 0x00, 0x20])).1.pc = 0x0203) ∧
      (run 0x0300 2 5 { start with pc := 0x2000 }).1.pc = 0x2000 ∧ (run 0x0300 2 5 start).1 = start := by decide

/-- R204: a byte 0x00 is an absent opcode; with nothing placed the first step raises. -/
theorem test_reset_runs_nothing : step State.reset = .fault (.unimplementedOpcode 0x00) := rfl

/-- An instruction placed by `withFetchWord` runs as the first step after reset. -/
theorem test_with_fetch_word :
    step (State.reset.withFetchWord 16 0b00001010_10101001) =
      exec (.ldaImm 0x0A) (State.reset.withFetchWord 16 0b00001010_10101001) := rfl

theorem test_with_fetch_word_optional :
    step (State.reset.withFetchWord 8 0b11101010) = exec .nop (State.reset.withFetchWord 8 0b11101010) := rfl

/-! ## Witnesses: states and operands that meet the hypotheses of each statement -/

/-- The bytes placed at an address, with that PC. -/
def atPc (pc : Word) (bytes : List Byte) : State := placed { start with pc := pc } [] bytes

/-- A small state with the option on. -/
def optional : State := { start with params := options true false true }

theorem witness_DecodeOfEncodeIsTheInstruction :
    Instr.wf false (.ldaAbs 0xFFFF) = true ∧ Instr.wf false (.cpyImm 0x00) = true ∧ Instr.wf true .nop = true := by
  decide

theorem witness_DecodedBytesAreTheEncoding :
    decode false [0xAD, 0xFF, 0x1F, 0x77] = .ok (.ldaAbs 0x1FFF, [0x77]) ∧ decode true [0xEA] = .ok (.nop, []) :=
  ⟨rfl, rfl⟩

theorem witness_ColumnOneFollowsTheLayout :
    ¬((4 : Fin 8) = 4 ∧ (1 : Fin 8) = 2) ∧ ¬((4 : Fin 8) = 4 ∧ (3 : Fin 8) = 2) ∧ ¬((7 : Fin 8) = 4 ∧ (7 : Fin 8) = 2) := by
  decide

/-- The last three backed addresses hold a whole instruction. -/
theorem witness_StepRunsTheDecodedInstruction :
    Instr.wf (atPc 0x1FFD [0xAD, 0x34, 0x12]).params.optFlagNop (.ldaAbs 0x1234) = true ∧
      ∀ k b, (encode (.ldaAbs 0x1234))[k]? = some b →
        (atPc 0x1FFD [0xAD, 0x34, 0x12]).read ((atPc 0x1FFD [0xAD, 0x34, 0x12]).pc + BitVec.ofNat 16 k).toNat = .ok b := by
  refine ⟨rfl, fun k b h => ?_⟩
  rcases k with _ | _ | _ | k
  · obtain rfl := Option.some.inj h; rfl
  · obtain rfl := Option.some.inj h; rfl
  · obtain rfl := Option.some.inj h; rfl
  · cases h

theorem witness_AbsentOpcodeRaisesUnimplemented :
    lookup start.params.optFlagNop 0x00 = none ∧ start.read start.pc.toNat = .ok 0x00 := ⟨rfl, rfl⟩

/-- The first clause at PC 0x2000. -/
theorem witness_FetchFaultsOnAnUnbackedByte_opcode : 0x1FFF < (atPc 0x2000 []).pc.toNat := by decide

/-- The second clause with the first operand byte at 0x2000. -/
theorem witness_FetchFaultsOnAnUnbackedByte_first :
    let s := atPc 0x1FFF [0xA9]
    s.read s.pc.toNat = .ok 0xA9 ∧
      (∃ d, lookup s.params.optFlagNop 0xA9 = some d ∧ 1 < d.length) ∧
      (∀ j, j < 1 → (s.pc + BitVec.ofNat 16 j).toNat ≤ 0x1FFF) ∧ 0x1FFF < (s.pc + BitVec.ofNat 16 1).toNat :=
  ⟨rfl, ⟨_, rfl, by decide⟩, by decide, by decide⟩

/-- The second clause with the second operand byte at 0x2000. -/
theorem witness_FetchFaultsOnAnUnbackedByte_second :
    let s := atPc 0x1FFE [0xAD, 0x34]
    s.read s.pc.toNat = .ok 0xAD ∧
      (∃ d, lookup s.params.optFlagNop 0xAD = some d ∧ 2 < d.length) ∧
      (∀ j, j < 2 → (s.pc + BitVec.ofNat 16 j).toNat ≤ 0x1FFF) ∧ 0x1FFF < (s.pc + BitVec.ofNat 16 2).toNat :=
  ⟨rfl, ⟨_, rfl, by decide⟩, by decide, by decide⟩

theorem witness_StepStopsOnlyByTheTwoExceptions :
    step start = .fault (.unimplementedOpcode 0x00) ∧ step (atPc 0x2000 []) = .fault (.outOfRange 0x2000) :=
  ⟨rfl, rfl⟩

/-- The three clauses, around the last backed address. -/
theorem witness_ExecCompletesExactlyWhenItsAccessIsBacked :
    (Instr.operand (.ldaAbs 0x2000) = some (.abs 0x2000) ∧ ¬ Readable (.abs 0x2000) start) ∧
      Instr.wf start.params.optFlagNop .clc = false ∧
      (∀ o, Instr.operand (.ldaAbs 0x1FFF) = some o → Readable o start) ∧
      Instr.wf start.params.optFlagNop (.ldaAbs 0x1FFF) = true := by
  refine ⟨⟨rfl, ?_⟩, rfl, ?_, rfl⟩
  · rintro (⟨v, h⟩ | h)
    · cases h
    · exact absurd h (by decide)
  · intro o h
    obtain rfl := Option.some.inj h
    exact .inr (by decide)

theorem witness_NormalEndIsAnAbsentOpcodeAtH : stepEnd 0x0200 start = some (.normal 0x00) := rfl

theorem witness_ReadGivesTheCellOrRaises : 0x1FFF ≤ 0x1FFF ∧ 0x1FFF < 0x2000 := by decide

theorem witness_MirrorsReachTheSameCell : 0x07FF ≤ 0x07FF ∧ 3 < 4 := by decide

theorem witness_WriteChangesOneCellOrRaises : 0x1FFF ≤ 0x1FFF ∧ 0x1FFF < 0x2000 := by decide

theorem witness_ClearZeroesEveryCell : 2047 < 2048 ∧ 0x1FFF ≤ 0x1FFF := by decide

/-- Two canonical memories with the same bytes: each of the two orders of the stores. -/
theorem witness_CanonicalMemoriesAreExtensional :
    let m := (Memory.store [] 0x7FF 1).store 0 2
    let n := (Memory.store [] 0 2).store 0x7FF 1
    m.wf ∧ n.wf ∧ ∀ k, m.cell k = n.cell k :=
  ⟨by decide, by decide, fun _ => rfl⟩

theorem witness_StepKeepsTheMemoryCanonical :
    CanonicalMemory (atPc 0x0200 [0x85, 0x10]) ∧ ∃ t, step (atPc 0x0200 [0x85, 0x10]) = .next t :=
  ⟨by decide, _, rfl⟩

theorem witness_HostCallsKeepTheInvariant : CanonicalMemory start := by decide

theorem witness_StepKeepsTheParameters : ∃ t, step (atPc 0x0200 [0xA9, 0x0A]) = .next t := ⟨_, rfl⟩

theorem witness_ImmediateIsTheNextByte :
    Instr.operand (.ldaImm 0x0A) = some (.imm 0x0A) ∧
      (atPc 0x1FFE [0xA9, 0x0A]).instrOf 0xA9 = .ok (.ldaImm 0x0A) ∧
      ∃ t, exec (.ldaImm 0x0A) (atPc 0x1FFE [0xA9, 0x0A]) = .next t := ⟨rfl, rfl, _, rfl⟩

theorem witness_ZeroPageModesStayInPageZero :
    Instr.operand (.ldaZp 0xFF) = some (.zp 0xFF) ∧ Instr.operand (.ldaZpx 0xFF) = some (.zpx 0xFF) ∧
      Instr.operand (.ldxZpy 0xFF) = some (.zpy 0xFF) ∧ Instr.operand (.stxZpy 0x00) = some (.zpy 0x00) := by decide

theorem witness_AbsoluteModesAddTheIndexOnce :
    Instr.operand (.ldaAbs 0xFFFF) = some (.abs 0xFFFF) ∧ Instr.operand (.ldaAbsx 0xFFFF) = some (.absx 0xFFFF) ∧
      Instr.operand (.staAbsy 0x01FF) = some (.absy 0x01FF) := by decide

theorem witness_IndirectModesReadAZeroPagePointer :
    Instr.operand (.ldaIzx 0xFE) = some (.izx 0xFE) ∧ Instr.operand (.ldaIzy 0xFF) = some (.izy 0xFF) := by decide

theorem witness_PcAdvancesByTheLength :
    (∃ t, exec (.ldaImm 0) { start with pc := 0xFFFE } = .next t) ∧ ∃ t, exec .tax start = .next t :=
  ⟨⟨_, rfl⟩, _, rfl⟩

/-- The count with a crossing, and without one; the default entry. -/
theorem witness_CyclesAreBasePlusThePenalty :
    cycleEntry start.params 0xBD = defaultCycles 0xBD ∧
    (∃ t, exec (.ldaAbsx 0x02F0) { start with x := 0x10 } = .next t ∧ t.lastCycles = 5) ∧
      ∃ t, exec (.ldaAbsx 0x0200) { start with x := 0x10 } = .next t ∧ t.lastCycles = 4 :=
  ⟨rfl, ⟨_, rfl, rfl⟩, _, rfl, rfl⟩

/-- A store meets the premise of all four clauses. -/
theorem witness_RegisterWriters :
    (∃ t, exec (.staZp 0x10) start = .next t) ∧
      Instr.mnemonic (.staZp 0x10) ∉ [Mnemonic.lda, .txa, .tya, .pla, .and, .eor, .ora, .adc, .sbc] ∧
      Instr.mode (.staZp 0x10) ≠ .accumulator ∧
      Instr.mnemonic (.staZp 0x10) ∉ [Mnemonic.ldx, .tax, .tsx, .inx, .dex] ∧
      Instr.mnemonic (.staZp 0x10) ∉ [Mnemonic.ldy, .tay, .iny, .dey] ∧
      Instr.mnemonic (.staZp 0x10) ∉ [Mnemonic.pha, .php, .pla, .plp, .txs] :=
  ⟨⟨_, rfl⟩, by decide, by decide, by decide, by decide, by decide⟩

/-- A store meets the premise of all four clauses; TXS and PLA that of the second where their parameter is
false. -/
theorem witness_FlagWriters :
    (∃ t, exec (.staZp 0x10) start = .next t) ∧
      Instr.mnemonic (.staZp 0x10) ∉ [Mnemonic.adc, .sbc, .cmp, .cpx, .cpy, .asl, .lsr, .rol, .ror, .plp, .clc, .sec] ∧
      Instr.mnemonic (.staZp 0x10) ∉ [Mnemonic.lda, .ldx, .ldy, .tax, .tay, .txa, .tya, .tsx, .and, .eor, .ora, .bit,
        .adc, .sbc, .cmp, .cpx, .cpy, .inc, .dec, .inx, .iny, .dex, .dey, .asl, .lsr, .rol, .ror, .plp] ∧
      Instr.mnemonic (.staZp 0x10) ∉ [Mnemonic.bit, .adc, .sbc, .plp, .clv] ∧
      Instr.mnemonic (.staZp 0x10) ≠ .plp ∧
      (∃ t, exec .pla start = .next t) ∧ ¬(Instr.mnemonic .pla = .pla ∧ start.params.plaSetsNZ = true) :=
  ⟨⟨_, rfl⟩, by decide, by decide, by decide, by decide, ⟨_, rfl⟩, by decide⟩

/-- The cell beside a stored one, and any address for an instruction that stores nothing. -/
theorem witness_MemoryFrame :
    (∃ t, exec (.staZp 0x10) start = .next t) ∧
      (∀ a, storeAddress (.staZp 0x10) start = some a → 0x0811 % 2048 ≠ a % 2048) ∧
      (∃ t, exec .tax start = .next t) ∧ ∀ a, storeAddress .tax start = some a → 0x0010 % 2048 ≠ a % 2048 := by
  refine ⟨⟨_, rfl⟩, ?_, ⟨_, rfl⟩, ?_⟩
  · intro a h; obtain rfl := Option.some.inj h; decide
  · intro a h; cases h

theorem witness_InterruptDecimalBreakHaveNoEffect :
    Instr.mnemonic (.adcImm 1) ≠ .php ∧ (∃ t, exec (.adcImm 1) start = .next t) ∧
      Instr.mnemonic .plp ≠ .php ∧ ∃ t, exec .plp start = .next t :=
  ⟨by decide, ⟨_, rfl⟩, by decide, _, rfl⟩

theorem witness_LoadsCopyTheOperand :
    (Instr.operand (.ldaAbs 0x1FFF) = some (.abs 0x1FFF) ∧ Readable (.abs 0x1FFF) start ∧
        Instr.mnemonic (.ldaAbs 0x1FFF) = .lda) ∧
      (Instr.operand (.ldxImm 0) = some (.imm 0) ∧ Readable (.imm 0) start ∧ Instr.mnemonic (.ldxImm 0) = .ldx) ∧
      (Instr.operand (.ldyZp 0xFF) = some (.zp 0xFF) ∧ Readable (.zp 0xFF) start ∧
        Instr.mnemonic (.ldyZp 0xFF) = .ldy) :=
  ⟨⟨rfl, .inr (by decide), rfl⟩, ⟨rfl, .inl ⟨0, rfl⟩, rfl⟩, rfl, .inr (by decide), rfl⟩

theorem witness_StoresWriteTheRegister :
    (Instr.operand (.staAbs 0x1FFF) = some (.abs 0x1FFF) ∧ (effectiveAddress (.abs 0x1FFF) start).toNat ≤ 0x1FFF ∧
        Instr.mnemonic (.staAbs 0x1FFF) = .sta) ∧
      (Instr.operand (.stxZpy 0xFF) = some (.zpy 0xFF) ∧ (effectiveAddress (.zpy 0xFF) start).toNat ≤ 0x1FFF ∧
        Instr.mnemonic (.stxZpy 0xFF) = .stx) ∧
      (Instr.operand (.styZpx 0xFF) = some (.zpx 0xFF) ∧ (effectiveAddress (.zpx 0xFF) start).toNat ≤ 0x1FFF ∧
        Instr.mnemonic (.styZpx 0xFF) = .sty) := by decide

theorem witness_TxsObeysItsParameter :
    start.params.txsSetsNZ = true ∧ ({ start with params := options false false false }).params.txsSetsNZ = false := by
  decide

theorem witness_PushInstructions :
    (Instr.pha = .pha ∧ (0 : Byte) = start.a) ∧ (Instr.php = .php ∧ (0x20 : Byte) = start.packStatus) := by decide

/-- Each value of the parameter, at the SP that wraps. -/
theorem witness_PlaObeysItsParameter :
    start.read (0x0100 + (start.sp + 1).toNat) = .ok 0 ∧ start.params.plaSetsNZ = false ∧
      ({ start with params := options true true false }).params.plaSetsNZ = true := ⟨rfl, rfl, rfl⟩

theorem witness_PlpWritesSevenFlags :
    (withCell start (0x0100, 0xDF)).read (0x0100 + ((withCell start (0x0100, 0xDF)).sp + 1).toNat) = .ok 0xDF := rfl

theorem witness_StackPairsRoundTrip :
    (∃ t u, exec .pha { start with sp := 0 } = .next t ∧ exec .pla t = .next u) ∧
      ∃ t u, exec .php { start with sp := 0 } = .next t ∧ exec .plp t = .next u :=
  ⟨⟨_, _, rfl, rfl⟩, _, _, rfl, rfl⟩

theorem witness_LogicalResults :
    (Instr.operand (.andAbs 0x1FFF) = some (.abs 0x1FFF) ∧ Instr.mnemonic (.andAbs 0x1FFF) = .and) ∧
      (Instr.operand (.eorAbs 0x1FFF) = some (.abs 0x1FFF) ∧ Instr.mnemonic (.eorAbs 0x1FFF) = .eor) ∧
      (Instr.operand (.oraAbs 0x1FFF) = some (.abs 0x1FFF) ∧ Instr.mnemonic (.oraAbs 0x1FFF) = .ora) ∧
      Readable (.abs 0x1FFF) start ∧ (0 : Byte) = start.a &&& value (.abs 0x1FFF) start :=
  ⟨⟨rfl, rfl⟩, ⟨rfl, rfl⟩, ⟨rfl, rfl⟩, .inr (by decide), rfl⟩

theorem witness_BitTestsTheOperand :
    Instr.mnemonic (.bitAbs 0x1FFF) = .bit ∧ Instr.operand (.bitAbs 0x1FFF) = some (.abs 0x1FFF) ∧
      Readable (.abs 0x1FFF) start := ⟨rfl, rfl, .inr (by decide)⟩

theorem witness_AdcAddsWithCarry :
    Instr.mnemonic (.adcImm 0xFF) = .adc ∧ Instr.operand (.adcImm 0xFF) = some (.imm 0xFF) ∧
      Readable (.imm 0xFF) start := ⟨rfl, rfl, .inl ⟨_, rfl⟩⟩

theorem witness_SbcSubtractsWithBorrow :
    Instr.mnemonic (.sbcImm 0xFF) = .sbc ∧ Instr.operand (.sbcImm 0xFF) = some (.imm 0xFF) ∧
      Readable (.imm 0xFF) start := ⟨rfl, rfl, .inl ⟨_, rfl⟩⟩

theorem witness_CompareInstructions :
    (Instr.operand (.cmpImm 0xFF) = some (.imm 0xFF) ∧ Instr.mnemonic (.cmpImm 0xFF) = .cmp ∧ (0 : Byte) = start.a) ∧
      (Instr.operand (.cpxImm 0xFF) = some (.imm 0xFF) ∧ Instr.mnemonic (.cpxImm 0xFF) = .cpx ∧
        (0 : Byte) = start.x) ∧
      (Instr.operand (.cpyImm 0xFF) = some (.imm 0xFF) ∧ Instr.mnemonic (.cpyImm 0xFF) = .cpy ∧
        (0 : Byte) = start.y) ∧
      Readable (.imm 0xFF) start := ⟨⟨rfl, rfl, rfl⟩, ⟨rfl, rfl, rfl⟩, ⟨rfl, rfl, rfl⟩, .inl ⟨_, rfl⟩⟩

theorem witness_IncrementAndDecrementMemory :
    (Instr.operand (.incAbs 0x1FFF) = some (.abs 0x1FFF) ∧ (effectiveAddress (.abs 0x1FFF) start).toNat ≤ 0x1FFF ∧
        Instr.mnemonic (.incAbs 0x1FFF) = .inc ∧ (1 : Byte) = BitVec.ofNat 8 ((value (.abs 0x1FFF) start).toNat + 1)) ∧
      (Instr.operand (.decAbs 0x1FFF) = some (.abs 0x1FFF) ∧ Instr.mnemonic (.decAbs 0x1FFF) = .dec ∧
        (0xFF : Byte) = BitVec.ofNat 8 ((value (.abs 0x1FFF) start).toNat + 255)) := by decide

theorem witness_AccumulatorShifts :
    (∀ i ∈ [Instr.aslA, .lsrA, .rolA, .rorA], i.mode = .accumulator) ∧
      shifted .asl 0x80 true = some (0x00, true) ∧ shifted .lsr 0x01 true = some (0x00, true) ∧
      shifted .rol 0x80 true = some (0x01, true) ∧ shifted .ror 0x01 true = some (0x80, true) := by decide

theorem witness_MemoryShifts :
    (∀ i ∈ [Instr.aslAbs 0x1FFF, .lsrAbs 0x1FFF, .rolAbs 0x1FFF, .rorAbs 0x1FFF],
        i.operand = some (.abs 0x1FFF) ∧ (shifted i.mnemonic (value (.abs 0x1FFF) start) start.c).isSome = true) ∧
      (effectiveAddress (.abs 0x1FFF) start).toNat ≤ 0x1FFF := by decide

theorem witness_OptionalInstructions : optional.params.optFlagNop = true := rfl

theorem witness_OptionalOpcodesAbsentWithoutTheOption :
    ((atPc 0x0200 [0xEA]).read (atPc 0x0200 [0xEA]).pc.toNat = .ok 0xEA ∧
        (atPc 0x0200 [0xEA]).params.optFlagNop = false) ∧
      (atPc 0x0200 [0xF8]).read (atPc 0x0200 [0xF8]).pc.toNat = .ok 0xF8 := ⟨⟨rfl, rfl⟩, rfl⟩

/-- The bounds of each width. -/
theorem witness_RegisterSetters :
    2 ^ Reg.sp.width ≤ 256 ∧ 255 < 2 ^ Reg.sp.width ∧ 2 ^ Reg.pc.width ≤ 65536 ∧ 65535 < 2 ^ Reg.pc.width := by decide

/-- The first and the last PC the rule allows. -/
theorem witness_StateAfterOutOfRange :
    let s := atPc 0x0200 [0xAD, 0x00, 0x20]
    hostCall 0 (.execute 0xAD) s = (.err (.outOfRange 0x2000), { s with pc := 0x0201 }) ∧
      hostCall 2 (.execute 0xAD) s = (.err (.outOfRange 0x2000), { s with pc := 0x0203 }) := ⟨rfl, rfl⟩


end Sys2Proof.Tests
end

section
/-! PROOFS. What an instruction that completes leaves behind, said once: an effect that moves neither PC nor
the parameters and stores at most one cell, after which the instruction retires (R29, R51, R93, R94). -/

namespace Sys2Proof.Machine

open Sys2Proof.Claims

/-- What any instruction may have done to `s` before it retires. -/
structure Effect (s u : State) : Prop where
  pc : u.pc = s.pc
  params : u.params = s.params
  mem : u.mem = s.mem ∨ ∃ addr v, u.mem = s.mem.store (cellIndex addr) v

theorem Effect.store (s : State) (addr : Nat) (v : Byte) :
    Effect s { s with mem := s.mem.store (cellIndex addr) v } := ⟨rfl, rfl, .inr ⟨addr, v, rfl⟩⟩

/-! ## The shapes of an instruction -/

theorem execRead_effect {op : Byte} {o : Operand} {f : State → Byte → State} {s t : State}
    (h : execRead op o f s = .next t) (hf : ∀ m, Effect s (f s m)) :
    ∃ u, Effect s u ∧ t = u.retire op o.mode.length (pageCrossed o s) := by
  obtain ⟨m, -, ht⟩ := execRead_next h
  exact ⟨_, hf m, ht⟩

theorem execStore_effect {op : Byte} {o : Operand} {v : Byte} {s t : State} (h : execStore op o v s = .next t) :
    ∃ u, Effect s u ∧ t = u.retire op o.mode.length (pageCrossed o s) :=
  ⟨_, Effect.store s _ v, (execStore_next h).2⟩

theorem execModify_effect {op : Byte} {o : Operand} {result : State → Byte → Byte}
    {flags : State → Byte → State} {s t : State} (h : execModify op o result flags s = .next t)
    (hf : ∀ u m, Effect s u → Effect s (flags u m)) :
    ∃ u, Effect s u ∧ t = u.retire op o.mode.length (pageCrossed o s) := by
  obtain ⟨m, -, -, ht⟩ := execModify_next h
  exact ⟨_, hf _ m (Effect.store s _ _), ht⟩

/-! ## Instructions with an operand -/

/-- The mnemonics whose operand is in memory, by the shape of their meaning (R95, R97, R96). -/
theorem mnemonic_of_operand {i : Instr} {o : Operand} (ho : i.operand = some o) :
    i.mnemonic ∈ [.lda, .ldx, .ldy, .and, .eor, .ora, .bit, .adc, .sbc, .cmp, .cpx, .cpy] ∨
      i.mnemonic ∈ [.sta, .stx, .sty] ∨ i.mnemonic ∈ [.inc, .dec, .asl, .lsr, .rol, .ror] := by
  cases i <;> simp_all [Instr.operand, Instr.mnemonic]

theorem length_of_operand {i : Instr} {o : Operand} (ho : i.operand = some o) : i.length = o.mode.length := by
  simp [Instr.length, Instr.mode, ho]

theorem crossing_of_operand {i : Instr} {o : Operand} (ho : i.operand = some o) (s : State) :
    crossing i s = pageCrossed o s := by
  simp [crossing, ho]

theorem exec_effect_of_operand {i : Instr} {o : Operand} {s t : State} (ho : i.operand = some o)
    (h : exec i s = .next t) : ∃ u, Effect s u ∧ t = u.retire i.opcode o.mode.length (pageCrossed o s) := by
  rw [exec_eq_execBy, execBy, ho] at h
  rcases mnemonic_of_operand ho with hm | hm | hm <;> simp only [List.mem_cons, List.not_mem_nil, or_false] at hm
  · rcases hm with hm | hm | hm | hm | hm | hm | hm | hm | hm | hm | hm | hm <;> rw [hm] at h <;>
      exact execRead_effect h fun _ => ⟨rfl, rfl, .inl rfl⟩
  · rcases hm with hm | hm | hm <;> rw [hm] at h <;> exact execStore_effect h
  · rcases hm with hm | hm | hm | hm | hm | hm <;> rw [hm] at h <;>
      exact execModify_effect h fun _ _ hu => ⟨hu.pc, hu.params, hu.mem⟩

/-! ## Instructions without an operand -/

theorem length_of_no_operand {i : Instr} (ho : i.operand = none) : i.length = 1 := by
  unfold Instr.length Instr.mode
  rw [ho]
  dsimp only
  split <;> rfl

/-- An instruction without an operand has its effect, which only OPT_FLAG_NOP can hold back (R91, R170). -/
theorem exec_of_no_operand {i : Instr} (ho : i.operand = none) (s : State) :
    ∃ u, (exec i s = execSingle i.opcode u ∨ exec i s = execOptional i.opcode u s) ∧ Effect s u := by
  cases i <;> cases ho
  case clc | sec | clv | nop => exact ⟨_, .inr rfl, rfl, rfl, .inl rfl⟩
  case pha | php => exact ⟨_, .inl rfl, rfl, rfl, .inr ⟨_, _, rfl⟩⟩
  case txs | pla => exact ⟨_, .inl rfl, by split <;> exact ⟨rfl, rfl, .inl rfl⟩⟩
  all_goals exact ⟨_, .inl rfl, rfl, rfl, .inl rfl⟩

/-! ## Every instruction, and the step -/

/-- An instruction that completes has had its effect and retired, with its own opcode, length and page crossing. -/
theorem exec_effect {i : Instr} {s t : State} (h : exec i s = .next t) :
    ∃ u, Effect s u ∧ t = u.retire i.opcode i.length (crossing i s) := by
  cases ho : i.operand with
  | some o =>
    rw [length_of_operand ho, crossing_of_operand ho]
    exact exec_effect_of_operand ho h
  | none =>
    have hc : crossing i s = false := by simp [crossing, ho]
    rw [length_of_no_operand ho, hc]
    obtain ⟨u, hx | hx, hu⟩ := exec_of_no_operand ho s <;> rw [hx] at h
    · exact ⟨u, hu, execSingle_next.mp h⟩
    · exact ⟨u, hu, (execOptional_next.mp h).2⟩

theorem exec_params {i : Instr} {s t : State} (h : exec i s = .next t) : t.params = s.params := by
  obtain ⟨u, hu, rfl⟩ := exec_effect h
  exact hu.params

/-- Settles O20: a step runs one instruction, whose effect and retirement leave the parameters alone. -/
theorem stepKeepsTheParameters : Obligations.StepKeepsTheParameters := by
  intro s t h
  obtain ⟨_, i, -, -, hi⟩ := step_next h
  exact exec_params hi

/-! ## The launch state -/

theorem reset_read {addr : Nat} (h : addr ≤ Config.windowTop) : State.reset.read addr = .ok 0 :=
  State.read_backed h

theorem reset_cycleEntry (op : Byte) : cycleEntry State.reset.params op = defaultCycles op :=
  cycleEntry_of_find_none rfl

/-- Settles O21: the registers, flags and Boolean parameters are the defaults of RegInit and Params, no
opcode has an entry of its own in CYCLES, and the memory list is empty. -/
theorem resetIsTheDefaultStartState : Obligations.ResetIsTheDefaultStartState :=
  ⟨⟨rfl, rfl, rfl, rfl, rfl⟩, ⟨rfl, rfl, rfl, rfl, rfl, rfl, rfl⟩, ⟨rfl, rfl, rfl⟩, reset_cycleEntry,
    fun _ => reset_read⟩

end Sys2Proof.Machine
end

section
/-! PROOFS. The register file (10_state.md): the status byte, where PC goes, and what the instructions may
change of the registers and flags and read of I, D and B. -/

namespace Sys2Proof.Machine

/-! ## The status byte -/

/-- Settles O27: the byte is a function of seven Booleans, each of which has its own power of two. -/
theorem packStatusLayout : Obligations.PackStatusLayout := by
  intro s
  unfold State.packStatus
  generalize s.n = n, s.v = v, s.b = b, s.d = d, s.i = i, s.z = z, s.c = c
  revert n v b d i z c
  decide

theorem State.unpackStatus_packStatus (s : State) : s.unpackStatus s.packStatus = s := by
  obtain ⟨hn, hv, -, hb, hd, hi, hz, hc⟩ := packStatusLayout s
  rw [State.unpackStatus, hn, hv, hb, hd, hi, hz, hc]

/-- Bit 5 is the one bit that unpacking ignores and packing sets (D4). -/
theorem State.packStatus_unpackStatus (s : State) (p : Byte) : (s.unpackStatus p).packStatus = p ||| 0x20 := by
  obtain ⟨hn, hv, h5, hb, hd, hi, hz, hc⟩ := packStatusLayout (s.unpackStatus p)
  refine BitVec.eq_of_getLsbD_eq fun k hk => ?_
  interval_cases k <;> simp [-BitVec.getLsbD_eq_getElem, hn, hv, h5, hb, hd, hi, hz, hc]

/-- Settles O28: both ways round, bit by bit along the layout of the byte. -/
theorem statusRoundTrips : Obligations.StatusRoundTrips :=
  fun s p => ⟨s.unpackStatus_packStatus, s.packStatus_unpackStatus p⟩

/-! ## The program counter -/

theorem encode_length (i : Instr) : (encode i).length = i.length := by
  obtain ⟨d, -, -, hmode, hlen, -⟩ := Laws.Encoded.all i
  rw [hlen, Descriptor.length, hmode, Instr.length]

/-- Settles O30: no effect moves PC, and retiring adds the length of the encoding. -/
theorem pcAdvancesByTheLength : Obligations.PcAdvancesByTheLength := by
  intro i s t h
  obtain ⟨u, hu, rfl⟩ := exec_effect h
  rw [State.retire_pc, hu.pc, encode_length, BitVec.toNat_add, BitVec.toNat_ofNat, Nat.add_mod_mod]

/-! ## What an instruction may change, and what it may not read -/

/-- `s` with other values of the three flags that are stored only (R27). -/
def State.withStored (s : State) (fi fd fb : Bool) : State := { s with i := fi, d := fd, b := fb }

@[simp] theorem State.withStored_params (s : State) (fi fd fb : Bool) :
    (s.withStored fi fd fb).params = s.params := rfl

theorem State.withStored_with_mem (s : State) (mem : Memory) (fi fd fb : Bool) :
    { s.withStored fi fd fb with mem := mem } = State.withStored { s with mem := mem } fi fd fb := rfl

/-- What an instruction of mnemonic `k` and format `m` leaves of the registers and flags: it writes only what
R21 to R28 let it write. -/
structure RegisterFrame (k : Mnemonic) (m : Mode) (s u : State) : Prop where
  a : k ∉ [.lda, .txa, .tya, .pla, .and, .eor, .ora, .adc, .sbc] → m ≠ .accumulator → u.a = s.a
  x : k ∉ [.ldx, .tax, .tsx, .inx, .dex] → u.x = s.x
  y : k ∉ [.ldy, .tay, .iny, .dey] → u.y = s.y
  sp : k ∉ [.pha, .php, .pla, .plp, .txs] → u.sp = s.sp
  c : k ∉ [.adc, .sbc, .cmp, .cpx, .cpy, .asl, .lsr, .rol, .ror, .plp, .clc, .sec] → u.c = s.c
  zn : k ∉ [.lda, .ldx, .ldy, .tax, .tay, .txa, .tya, .tsx, .and, .eor, .ora, .bit, .adc, .sbc, .cmp,
        .cpx, .cpy, .inc, .dec, .inx, .iny, .dex, .dey, .asl, .lsr, .rol, .ror, .plp] →
      ¬(k = .txs ∧ s.params.txsSetsNZ = true) → ¬(k = .pla ∧ s.params.plaSetsNZ = true) →
      u.z = s.z ∧ u.n = s.n
  v : k ∉ [.bit, .adc, .sbc, .plp, .clv] → u.v = s.v
  stored : k ≠ .plp → u.i = s.i ∧ u.d = s.d ∧ u.b = s.b

section
variable {k : Mnemonic} {m : Mode} {s u : State}

theorem RegisterFrame.of_mem {mem : Memory} (h : RegisterFrame k m { s with mem := mem } u) :
    RegisterFrame k m s u :=
  ⟨h.a, h.x, h.y, h.sp, h.c, h.zn, h.v, h.stored⟩

theorem RegisterFrame.retire (h : RegisterFrame k m s u) (op : Byte) (len : Nat) (crossed : Bool) :
    RegisterFrame k m s (u.retire op len crossed) :=
  ⟨h.a, h.x, h.y, h.sp, h.c, h.zn, h.v, h.stored⟩

theorem RegisterFrame.refl (k : Mnemonic) (m : Mode) (s : State) : RegisterFrame k m s s :=
  ⟨fun _ _ => rfl, fun _ => rfl, fun _ => rfl, fun _ => rfl, fun _ => rfl, fun _ _ _ => ⟨rfl, rfl⟩, fun _ => rfl,
    fun _ => ⟨rfl, rfl, rfl⟩⟩

end

/-- A change of the state that an instruction of mnemonic `k` and format `m` may make: it writes within the
frame, and it reads none of I, D and B, but that PHP packs them and PLP overwrites them (R27, C13). -/
structure Update (k : Mnemonic) (m : Mode) (f : State → State) : Prop where
  frame : ∀ s, RegisterFrame k m s (f s)
  withStored : k ∉ [.php, .plp] → ∀ s fi fd fb, f (s.withStored fi fd fb) = (f s).withStored fi fd fb

/-- The five shapes of an instruction (R91, R95 to R97, R170). -/
inductive Shape (i : Instr) : Prop where
  | read (o : Operand) (f : State → Byte → State) (hf : ∀ v, Update i.mnemonic i.mode (f · v))
      (hx : ∀ s, exec i s = execRead i.opcode o f s)
  | store (o : Operand) (v : State → Byte) (hv : ∀ s fi fd fb, v (s.withStored fi fd fb) = v s)
      (hx : ∀ s, exec i s = execStore i.opcode o (v s) s)
  | modify (o : Operand) (result : State → Byte → Byte) (flags : State → Byte → State)
      (hr : ∀ s v fi fd fb, result (s.withStored fi fd fb) v = result s v)
      (hf : ∀ v, Update i.mnemonic i.mode (flags · v))
      (hx : ∀ s, exec i s = execModify i.opcode o result flags s)
  | single (f : State → State) (hf : Update i.mnemonic i.mode f)
      (hx : ∀ s, exec i s = execSingle i.opcode (f s))
  | optional (f : State → State) (hf : Update i.mnemonic i.mode f)
      (hx : ∀ s, exec i s = execOptional i.opcode (f s) s)

theorem shape_of_operand {i : Instr} {o : Operand} (ho : i.operand = some o) : Shape i := by
  have hx : ∀ s, exec i s = execBy i s := exec_eq_execBy i
  simp only [execBy, ho] at hx
  rcases mnemonic_of_operand ho with hm | hm | hm <;> simp only [List.mem_cons, List.not_mem_nil, or_false] at hm
  · rcases hm with hm | hm | hm | hm | hm | hm | hm | hm | hm | hm | hm | hm <;> simp only [hm] at hx <;>
      refine .read o _ (fun v => ?_) hx <;> rw [hm] <;>
      exact ⟨fun s => by constructor <;> simp, fun _ _ _ _ _ => rfl⟩
  · rcases hm with hm | hm | hm <;> simp only [hm] at hx <;> exact .store o _ (fun _ _ _ _ => rfl) hx
  · rcases hm with hm | hm | hm | hm | hm | hm <;> simp only [hm] at hx <;>
      refine .modify o _ _ (fun _ _ _ _ _ => rfl) (fun v => ?_) hx <;> rw [hm] <;>
      exact ⟨fun s => by constructor <;> simp, fun _ _ _ _ _ => rfl⟩

theorem shape_of_no_operand {i : Instr} (ho : i.operand = none) : Shape i := by
  cases i <;> cases ho
  case clc | sec | clv | nop =>
    exact .optional _ ⟨fun s => by constructor <;> simp [Instr.mnemonic], fun _ _ _ _ _ => rfl⟩ fun _ => rfl
  case txs | pla =>
    exact .single _ ⟨fun s => by split <;> constructor <;> simp_all [Instr.mnemonic],
      fun _ _ _ _ _ => by rw [State.withStored_params]; split <;> rfl⟩ fun _ => rfl
  case php | plp =>
    exact .single _ ⟨fun s => by constructor <;> simp [Instr.mnemonic], fun h => absurd h (by simp [Instr.mnemonic])⟩
      fun _ => rfl
  all_goals
    exact .single _ ⟨fun s => by constructor <;> simp [Instr.mnemonic, Instr.mode, Instr.operand],
      fun _ _ _ _ _ => rfl⟩ fun _ => rfl

/-- Every instruction has one of the five shapes, with effects that are updates of its mnemonic and format. -/
theorem shape (i : Instr) : Shape i := by
  cases ho : i.operand with
  | some o => exact shape_of_operand ho
  | none => exact shape_of_no_operand ho

/-! ## The frame of every instruction -/

/-- An instruction that completes has stayed within its frame. -/
theorem exec_frame {i : Instr} {s t : State} (h : exec i s = .next t) : RegisterFrame i.mnemonic i.mode s t := by
  cases shape i with
  | read o f hf hx =>
    obtain ⟨v, -, rfl⟩ := execRead_next ((hx s).symm.trans h)
    exact ((hf v).frame s).retire ..
  | store o v _ hx =>
    obtain ⟨-, rfl⟩ := execStore_next ((hx s).symm.trans h)
    exact (RegisterFrame.refl ..).of_mem.retire ..
  | modify o result flags _ hf hx =>
    obtain ⟨v, -, -, rfl⟩ := execModify_next ((hx s).symm.trans h)
    exact ((hf v).frame _).of_mem.retire ..
  | single f hf hx =>
    obtain rfl := execSingle_next.mp ((hx s).symm.trans h)
    exact (hf.frame s).retire ..
  | optional f hf hx =>
    obtain ⟨-, rfl⟩ := execOptional_next.mp ((hx s).symm.trans h)
    exact (hf.frame s).retire ..

/-- Settles O32: the register clauses of the frame. -/
theorem registerWriters : Obligations.RegisterWriters := by
  intro i s t h
  have hf := exec_frame h
  exact ⟨hf.a, hf.x, hf.y, hf.sp⟩

/-- Settles O33: the flag clauses of the frame. -/
theorem flagWriters : Obligations.FlagWriters := by
  intro i s t h
  have hf := exec_frame h
  exact ⟨hf.c, hf.zn, hf.v, hf.stored⟩

/-! ## I, D and B are stored only -/

section
variable (o : Operand) (s : State) (fi fd fb : Bool)

@[simp] theorem effectiveAddress_withStored :
    effectiveAddress o (s.withStored fi fd fb) = effectiveAddress o s := by
  cases o <;> rfl

@[simp] theorem pageCrossed_withStored : pageCrossed o (s.withStored fi fd fb) = pageCrossed o s := by
  cases o <;> rfl

@[simp] theorem loadOperand_withStored : loadOperand o (s.withStored fi fd fb) = loadOperand o s := by
  cases o <;> rfl

end

/-- No instruction but PHP reads I, D and B, and no instruction but PLP writes them (R27). -/
theorem exec_withStored {i : Instr} {s t : State} (hi : i.mnemonic ∉ [.php, .plp]) (h : exec i s = .next t)
    (fi fd fb : Bool) : exec i (s.withStored fi fd fb) = .next (t.withStored fi fd fb) := by
  cases shape i with
  | read o f hf hx =>
    obtain ⟨v, hv, rfl⟩ := execRead_next ((hx s).symm.trans h)
    rw [hx, execRead_of_load ((loadOperand_withStored ..).trans hv), (hf v).withStored hi, pageCrossed_withStored]
    rfl
  | store o v hv hx =>
    obtain ⟨ha, rfl⟩ := execStore_next ((hx s).symm.trans h)
    rw [hx, hv, execStore_backed (by rwa [effectiveAddress_withStored]), effectiveAddress_withStored,
      pageCrossed_withStored]
    rfl
  | modify o result flags hr hf hx =>
    obtain ⟨v, hv, ha, rfl⟩ := execModify_next ((hx s).symm.trans h)
    rw [hx, execModify_of_load ((loadOperand_withStored ..).trans hv) (by rwa [effectiveAddress_withStored]), hr,
      effectiveAddress_withStored, pageCrossed_withStored, State.withStored_with_mem, (hf v).withStored hi]
    rfl
  | single f hf hx =>
    obtain rfl := execSingle_next.mp ((hx s).symm.trans h)
    rw [hx, hf.withStored hi]
    rfl
  | optional f hf hx =>
    obtain ⟨hopt, rfl⟩ := execOptional_next.mp ((hx s).symm.trans h)
    rw [hx, hf.withStored hi]
    exact execOptional_next.mpr ⟨hopt, rfl⟩

/-- PLP takes the three flags from the byte it pulls, whatever they held (R125, C13). -/
theorem exec_plp_withStored (s : State) (fi fd fb : Bool) : exec .plp (s.withStored fi fd fb) = exec .plp s := rfl

theorem eq_plp_of_mnemonic {i : Instr} (h : i.mnemonic = .plp) : i = .plp := by
  cases i <;> cases h
  rfl

/-- Settles O35: PLP overwrites the three flags, and every other instruction carries them along. -/
theorem interruptDecimalBreakHaveNoEffect : Obligations.InterruptDecimalBreakHaveNoEffect := by
  intro i s t fi fd fb hphp h
  by_cases hplp : i.mnemonic = .plp
  · obtain rfl := eq_plp_of_mnemonic hplp
    exact (exec_plp_withStored s fi fd fb).trans h
  · rw [if_neg hplp]
    exact exec_withStored (by simp [hphp, hplp]) h fi fd fb

/-! ## The register setters -/

theorem State.setReg_too_wide {r : Reg} {value : Nat} (s : State) (h : 2 ^ r.width ≤ value) :
    s.setReg r value = .error (.invalidRegisterValue r value) :=
  if_neg h.not_gt

/-- A value that fits is set, and nothing else is. -/
theorem State.setReg_fits {r : Reg} {value : Nat} (s : State) (h : value < 2 ^ r.width) :
    ∃ t, s.setReg r value = .ok t ∧ t.getReg r = value ∧ (∀ q, q ≠ r → t.getReg q = s.getReg q) ∧
      (∀ f, t.getFlag f = s.getFlag f) ∧ t.mem = s.mem := by
  cases r
  all_goals
    refine ⟨_, if_pos h, Nat.mod_eq_of_lt h, fun q hq => ?_, fun f => by cases f <;> rfl, rfl⟩
    cases q <;> simp_all [State.getReg]

theorem hostCall_setReg_of_ok {r : Reg} {value : Nat} {s t : State} (h : s.setReg r value = .ok t) (free : Nat) :
    hostCall free (.setReg r value) s = (.nothing, t) := by
  simp [hostCall, h]

theorem hostCall_setReg_of_error {r : Reg} {value : Nat} {s : State} {e : Fault}
    (h : s.setReg r value = .error e) (free : Nat) : hostCall free (.setReg r value) s = (.err e, s) := by
  simp [hostCall, h]

theorem State.read_of_mem {s t : State} (h : t.mem = s.mem) (addr : Nat) : t.read addr = s.read addr := by
  rw [State.read, State.read, h]

/-- Settles O59: the caller sees the setter's error and its own state, or the state with the register set. -/
theorem registerSetters : Obligations.RegisterSetters := by
  intro free r value s
  refine ⟨fun h => hostCall_setReg_of_error (s.setReg_too_wide h) free, fun h => ?_⟩
  obtain ⟨t, ht, hr, hq, hf, hmem⟩ := s.setReg_fits h
  rw [hostCall_setReg_of_ok ht]
  exact ⟨rfl, hr, hq, hf, State.read_of_mem hmem⟩

end Sys2Proof.Machine
end

section
/-! PROOFS. The memory (20_memory.md): what a read, a write and `clear` do, the mirrors, the canonical form, and
what an instruction leaves of the memory. -/

namespace Sys2Proof.Machine

open Sys2Proof.Claims Sys2Proof.Safety

/-! ## The invariant -/

theorem Effect.wf {s u : State} (h : Effect s u) (hs : s.mem.wf) : u.mem.wf := by
  obtain hm | ⟨addr, v, hm⟩ := h.mem <;> rw [hm]
  · exact hs
  · exact Memory.wf_store v hs (cellIndex_lt addr)

theorem exec_wf {i : Instr} {s t : State} (hs : s.mem.wf) (h : exec i s = .next t) : t.mem.wf := by
  obtain ⟨u, hu, rfl⟩ := exec_effect h
  exact hu.wf hs

/-- Settles O17: the step runs one instruction, whose effect stores at most one cell. -/
theorem stepKeepsTheMemoryCanonical : Obligations.StepKeepsTheMemoryCanonical := by
  intro s t hs h
  obtain ⟨_, i, -, -, hi⟩ := step_next h
  exact exec_wf hs hi

/-- Settles O18: the launch memory lists no cell. -/
theorem resetMeetsTheInvariant : Obligations.ResetMeetsTheInvariant := State.reset_wf

/-! ## Reads, writes and `clear` -/

theorem hostCall_read_state (free addr : Nat) (s : State) : (hostCall free (.read addr) s).2 = s := by
  obtain ⟨-, h⟩ | ⟨-, h⟩ := s.read_cases addr <;> simp [hostCall, h]

theorem hostCall_write_of_error {addr : Nat} {v : Byte} {s : State} {e : Fault} (h : s.write addr v = .error e)
    (free : Nat) : hostCall free (.write addr v) s = (.err e, s) := by
  simp [hostCall, h]

/-- Settles O12: the two cases of a read, neither of which gives the caller another state. -/
theorem readGivesTheCellOrRaises : Obligations.ReadGivesTheCellOrRaises :=
  fun s addr => ⟨State.read_backed, State.read_unbacked, fun free => hostCall_read_state free addr s⟩

/-- R42: the cell of a mirror is the cell of the block it mirrors. -/
theorem cellIndex_mirror {a : Nat} (h : a ≤ 0x07FF) (k : Nat) : cellIndex (a + k * 0x0800) = a := by
  rw [cellIndex_eq_mod]
  omega

theorem mirror_le_windowTop {a k : Nat} (h : a ≤ 0x07FF) (hk : k < 4) : a + k * 0x0800 ≤ Config.windowTop := by
  unfold Config.windowTop
  omega

/-- Settles O13: a read and a write see an address only by whether it is backed and by its cell. -/
theorem mirrorsReachTheSameCell : Obligations.MirrorsReachTheSameCell := by
  intro s a k v ha hk
  have hcell := cellIndex_mirror ha k
  have hblock : cellIndex a = a := cellIndex_mirror ha 0
  have hbacked := mirror_le_windowTop ha hk
  refine ⟨hcell, ?_, ?_⟩
  · rw [State.read_backed hbacked, hcell]
  · rw [State.write_backed v hbacked, hcell, State.write_backed v (ha.trans (by decide)), hblock]

/-- A store to the cell of an address is seen at the backed addresses that reach that cell, and nowhere else. -/
theorem storedAt_of_mem {s t : State} {addr : Nat} {v : Byte} (h : t.mem = s.mem.store (cellIndex addr) v) :
    StoredAt s t addr v := by
  intro b
  by_cases hb : b ≤ Config.windowTop
  · rw [State.read_backed hb, State.read_backed hb, h, Memory.cell_store, cellIndex_eq_mod, cellIndex_eq_mod]
    by_cases hc : b % 2048 = addr % 2048
    · rw [if_pos hc, if_pos ⟨hb, hc⟩]
    · rw [if_neg hc, if_neg (hc ·.2)]
  · rw [if_neg (hb ·.1), State.read_unbacked (Nat.lt_of_not_le hb), State.read_unbacked (Nat.lt_of_not_le hb)]

/-- Settles O14: a backed write is one store, an unbacked one leaves the caller its own state. -/
theorem writeChangesOneCellOrRaises : Obligations.WriteChangesOneCellOrRaises :=
  fun _ _ v => ⟨fun h => ⟨_, State.write_backed v h, storedAt_of_mem rfl, rfl⟩,
    fun h => ⟨State.write_unbacked v h, hostCall_write_of_error (State.write_unbacked v h)⟩⟩

/-- Settles O15: the cleared memory lists no cell. -/
theorem clearZeroesEveryCell : Obligations.ClearZeroesEveryCell :=
  fun _ => ⟨fun k _ => Memory.cell_nil k, fun _ h => State.read_backed h, rfl, fun _ => rfl⟩

/-! ## Canonical memories -/

/-- A canonical memory lists exactly the cells that do not hold 0x00, each with its byte. -/
theorem Memory.mem_iff_cell {m : Memory} (h : m.wf) (p : Host.Cell) : p ∈ m ↔ p.2 ≠ 0 ∧ m.cell p.1 = p.2 := by
  induction m with
  | nil => exact ⟨fun hp => absurd hp List.not_mem_nil, fun hp => absurd hp.2.symm hp.1⟩
  | cons q rest ih =>
    obtain ⟨hord, hall⟩ := h
    obtain ⟨hhead, htail⟩ := List.pairwise_cons.mp hord
    have ih := ih ⟨htail, fun r hr => hall r (List.mem_cons_of_mem q hr)⟩
    rw [List.mem_cons, Memory.cell_cons]
    by_cases hpq : q.1 = p.1
    · have hrest : p ∉ rest := fun hp => (hhead p hp).ne hpq
      have hq : q.2 ≠ 0 := (hall q List.mem_cons_self).2
      rw [if_pos hpq, or_iff_left hrest]
      exact ⟨fun hp => by rw [hp]; exact ⟨hq, rfl⟩, fun hp => Prod.ext hpq.symm hp.2.symm⟩
    · have hne : p ≠ q := fun hp => hpq (by rw [hp])
      rw [if_neg hpq, ← ih, or_iff_right hne]

theorem Memory.eq_of_mem_iff {m n : Memory} (hm : m.wf) (hn : n.wf) (h : ∀ p, p ∈ m ↔ p ∈ n) : m = n := by
  have : Std.Irrefl fun p q : Host.Cell => p.1 < q.1 := ⟨fun p => lt_irrefl p.1⟩
  have : Std.Antisymm fun p q : Host.Cell => p.1 < q.1 := ⟨fun p q hpq hqp => absurd hqp hpq.asymm⟩
  exact hm.1.eq_of_mem_iff hn.1 h

/-- Settles O16: the cells fix which entries a canonical memory lists, and the order fixes where. -/
theorem canonicalMemoriesAreExtensional : Obligations.CanonicalMemoriesAreExtensional := by
  intro m n hm hn h
  refine Memory.eq_of_mem_iff hm hn fun p => ?_
  rw [Memory.mem_iff_cell hm, Memory.mem_iff_cell hn, h]

/-! ## The frame of memory -/

/-- What instruction `i`, run in `s`, may have done to the memory by `t`: nothing, or one store to the cell
of its stored address (R51). -/
def MemoryEffect (i : Instr) (s t : State) : Prop :=
  t.mem = s.mem ∨ ∃ addr v, storeAddress i s = some addr ∧ t.mem = s.mem.store (cellIndex addr) v

theorem exec_memoryEffect_of_operand {i : Instr} {o : Operand} {s t : State} (ho : i.operand = some o)
    (h : exec i s = .next t) : MemoryEffect i s t := by
  rw [exec_eq_execBy, execBy, ho] at h
  rcases mnemonic_of_operand ho with hm | hm | hm <;> simp only [List.mem_cons, List.not_mem_nil, or_false] at hm
  · rcases hm with hm | hm | hm | hm | hm | hm | hm | hm | hm | hm | hm | hm <;> rw [hm] at h <;>
      obtain ⟨m, -, rfl⟩ := execRead_next h <;> exact .inl rfl
  · rcases hm with hm | hm | hm <;> rw [hm] at h <;> obtain ⟨-, rfl⟩ := execStore_next h <;>
      exact .inr ⟨_, _, by rw [storeAddress, hm, ho], rfl⟩
  · rcases hm with hm | hm | hm | hm | hm | hm <;> rw [hm] at h <;> obtain ⟨m, -, -, rfl⟩ := execModify_next h <;>
      exact .inr ⟨_, _, by rw [storeAddress, hm, ho], rfl⟩

theorem exec_memoryEffect_of_no_operand {i : Instr} {s t : State} (ho : i.operand = none)
    (h : exec i s = .next t) : MemoryEffect i s t := by
  cases i <;> cases ho
  case clc | sec | clv | nop =>
    obtain ⟨-, rfl⟩ := execOptional_next.mp h
    exact .inl rfl
  case pha | php =>
    obtain rfl := execSingle_next.mp h
    exact .inr ⟨_, _, rfl, rfl⟩
  case txs | pla =>
    obtain rfl := execSingle_next.mp h
    exact .inl (by rw [State.retire_mem]; split <;> rfl)
  all_goals
    obtain rfl := execSingle_next.mp h
    exact .inl rfl

theorem exec_memoryEffect {i : Instr} {s t : State} (h : exec i s = .next t) : MemoryEffect i s t := by
  cases ho : i.operand with
  | some o => exact exec_memoryEffect_of_operand ho h
  | none => exact exec_memoryEffect_of_no_operand ho h

/-- Settles O34: an address sees the one store only where it reaches the stored cell. -/
theorem memoryFrame : Obligations.MemoryFrame := by
  intro i s t h b hb
  obtain hm | ⟨addr, v, ha, hm⟩ := exec_memoryEffect h
  · exact State.read_of_mem hm b
  · rw [storedAt_of_mem hm b, if_neg (hb addr ha ·.2)]

end Sys2Proof.Machine
end

section
/-! PROOFS. The encoding (30_encoding.md): the decoder inverts the encoder, wherever its bytes come from, and
which opcodes the table leaves out. -/

namespace Sys2Proof

open Sys2Proof.Claims

/-! ## The operand bytes and the rows -/

@[simp] theorem loByte_joinBytes (hi lo : Byte) : loByte (joinBytes hi lo) = lo := by
  apply BitVec.eq_of_toNat_eq
  rw [loByte, Machine.joinBytes_toNat, BitVec.toNat_ofNat]
  omega

@[simp] theorem hiByte_joinBytes (hi lo : Byte) : hiByte (joinBytes hi lo) = hi := by
  apply BitVec.eq_of_toNat_eq
  rw [hiByte, Machine.joinBytes_toNat, BitVec.toNat_ofNat]
  omega

/-- The instruction of a form whose operand bits are `w`, or its low byte, or none of it. -/
def Form.instr : Form → Word → Instr
  | .single i, _ => i
  | .byte f, w => f (loByte w)
  | .word f, w => f w

/-- The operand bytes of `Form.instr`, in memory order (R62). -/
def Form.operandBytes : Form → Word → List Byte
  | .single _, _ => []
  | .byte _, w => [loByte w]
  | .word _, w => [loByte w, hiByte w]

/-- What a form builds is its instruction for some operand bits. -/
theorem Form.Builds.exists_instr {f : Form} {i : Instr} (h : f.Builds i) :
    ∃ w, f.instr w = i ∧ encode i = i.opcode :: f.operandBytes w := by
  cases f with
  | single j => exact ⟨0, h⟩
  | byte g =>
    obtain ⟨b, hb⟩ := h
    exact ⟨joinBytes 0 b, by simpa [Form.instr, Form.operandBytes] using hb⟩
  | word g => exact h

/-- Whatever the operand bits, the instruction of a row has the row's mnemonic, and its encoding is the row's
opcode with those bits after it. -/
theorem row_instr (w : Word) {d : Descriptor} (hd : d ∈ opcodeTable) :
    (d.form.instr w).mnemonic = d.mnemonic ∧ encode (d.form.instr w) = d.opcode :: d.form.operandBytes w := by
  have table : opcodeTable.map (fun d => ((d.form.instr w).mnemonic, encode (d.form.instr w))) =
      opcodeTable.map (fun d => (d.mnemonic, d.opcode :: d.form.operandBytes w)) := rfl
  exact Prod.mk.inj (List.map_inj_left.mp table d hd)

/-- OPT_FLAG_NOP hides the optional rows and no other (R63, R170). -/
theorem lookup_eq_filter (opt : Bool) (op : Byte) :
    lookup opt op = (lookup true op).filter (fun d => !d.mnemonic.optional || opt) := by
  unfold lookup
  split
  · next d _ => cases opt <;> cases hd : d.mnemonic.optional <;> simp [Option.filter, hd]
  · rfl

/-! ## Decoding from any source of bytes -/

section
variable {ε : Type} {get : Nat → Except ε Byte} {opt : Bool} {absent : Byte → ε} {i : Instr}

/-- The source `get` gives the bytes of `bs`, one after the other from place 0. -/
def Supplies (get : Nat → Except ε Byte) (bs : List Byte) : Prop := ∀ k b, bs[k]? = some b → get k = .ok b

@[simp] theorem supplies_nil : Supplies get [] := fun _ _ h => nomatch h

@[simp] theorem supplies_cons {b : Byte} {bs : List Byte} :
    Supplies get (b :: bs) ↔ get 0 = .ok b ∧ Supplies (fun k => get (k + 1)) bs := by
  constructor
  · intro h
    exact ⟨h 0 b rfl, fun k c hc => h (k + 1) c hc⟩
  · rintro ⟨h0, h⟩ k c hc
    cases k with
    | zero => rw [h0, Option.some.inj hc]
    | succ k => exact h k c hc

theorem Form.read_of_supplies {f : Form} {w : Word} (h : Supplies (fun k => get (k + 1)) (f.operandBytes w)) :
    f.read get = .ok (f.instr w) := by
  cases f with
  | single j => rfl
  | byte g =>
    obtain ⟨h1, -⟩ := supplies_cons.mp h
    simp only [Form.read, h1, Form.instr]
  | word g =>
    obtain ⟨h1, h2⟩ := supplies_cons.mp h
    obtain ⟨h2, -⟩ := supplies_cons.mp h2
    simp only [Form.read, h1, h2, Machine.joinBytes_hi_lo, Form.instr]

theorem lookup_opcode_of_wf (hi : i.wf opt = true) : ∃ d, lookup opt i.opcode = some d ∧ d.form.Builds i := by
  obtain ⟨d, hd, hm, -, -, hb⟩ := Laws.Encoded.all i
  refine ⟨d, ?_, hb⟩
  rw [lookup_eq_filter, Option.filter_eq_some_iff]
  exact ⟨hd, hm ▸ hi⟩

theorem decodeFrom_of_supplies (hi : i.wf opt = true) (h : Supplies get (encode i)) :
    decodeFrom opt absent get = .ok i := by
  obtain ⟨d, hd, hb⟩ := lookup_opcode_of_wf hi
  obtain ⟨w, hw, he⟩ := hb.exists_instr
  rw [he, supplies_cons] at h
  obtain ⟨h0, hops⟩ := h
  simp only [decodeFrom, h0, hd, Form.read_of_supplies hops, hw]

theorem supplies_of_decodeFrom (h : decodeFrom opt absent get = .ok i) :
    i.wf opt = true ∧ Supplies get (encode i) := by
  obtain ⟨op, d, h0, hd, hform⟩ := decodeFrom_ok h
  obtain ⟨w, rfl, hops⟩ : ∃ w, d.form.instr w = i ∧ Supplies (fun k => get (k + 1)) (d.form.operandBytes w) := by
    rcases hform with hf | ⟨f, b, hf, h1, rfl⟩ | ⟨f, lo, hi, hf, h1, h2, rfl⟩ <;> rw [hf]
    · exact ⟨0, rfl, supplies_nil⟩
    · exact ⟨joinBytes 0 b, by simp [Form.instr], by simp [Form.operandBytes, h1]⟩
    · exact ⟨joinBytes hi lo, rfl, by simp [Form.operandBytes, h1, h2]⟩
  obtain ⟨hmem, rfl⟩ := lookup_mem hd
  obtain ⟨hm, he⟩ := row_instr w hmem
  rw [lookup_eq_filter, Option.filter_eq_some_iff] at hd
  obtain ⟨-, hopt⟩ := hd
  rw [Instr.wf, hm, he, supplies_cons]
  exact ⟨hopt, h0, hops⟩

/-- The decoder answers an instruction exactly when the core has it and the source gives its encoding (R60,
R63). -/
theorem decodeFrom_eq_ok_iff :
    decodeFrom opt absent get = .ok i ↔ i.wf opt = true ∧ Supplies get (encode i) :=
  ⟨supplies_of_decodeFrom, fun h => decodeFrom_of_supplies h.1 h.2⟩

end

/-! ## Decoding a list of bytes -/

theorem byteAt_eq_ok_iff {bs : List Byte} {k : Nat} {b : Byte} : byteAt bs k = .ok b ↔ bs[k]? = some b := by
  unfold byteAt
  split <;> simp_all

theorem supplies_byteAt_iff {bs cs : List Byte} : Supplies (byteAt bs) cs ↔ cs <+: bs := by
  rw [List.prefix_iff_getElem?]
  constructor
  · exact fun h k hk => byteAt_eq_ok_iff.mp (h k _ (List.getElem?_eq_getElem hk))
  · intro h k b hb
    obtain ⟨hk, rfl⟩ := List.getElem?_eq_some_iff.mp hb
    exact byteAt_eq_ok_iff.mpr (h k hk)

/-- Decoding and encoding are inverse: the bytes decode to an instruction exactly when the core has it and
they are its encoding, with the rest after it. -/
theorem decode_eq_ok_iff {opt : Bool} {bytes : List Byte} {i : Instr} {rest : List Byte} :
    decode opt bytes = .ok (i, rest) ↔ i.wf opt = true ∧ bytes = encode i ++ rest := by
  constructor
  · intro h
    unfold decode at h
    split at h
    · cases h
    · next j hj =>
      cases h
      obtain ⟨hwf, hsup⟩ := decodeFrom_eq_ok_iff.mp hj
      obtain ⟨rest, rfl⟩ := supplies_byteAt_iff.mp hsup
      rw [← Machine.encode_length, List.drop_left]
      exact ⟨hwf, rfl⟩
  · rintro ⟨hwf, rfl⟩
    have hdec : decodeFrom opt .absent (byteAt (encode i ++ rest)) = .ok i :=
      decodeFrom_eq_ok_iff.mpr ⟨hwf, supplies_byteAt_iff.mpr (List.prefix_append _ _)⟩
    simp only [decode, hdec, ← Machine.encode_length, List.drop_left]

/-- Settles O1: the encoding and the bytes after it meet what decoding asks of its bytes. -/
theorem decodeOfEncodeIsTheInstruction : Obligations.DecodeOfEncodeIsTheInstruction :=
  fun _ _ _ hi => decode_eq_ok_iff.mpr ⟨hi, rfl⟩

/-- Settles O2: decoding answers only an instruction the core has, whose encoding stands first. -/
theorem decodedBytesAreTheEncoding : Obligations.DecodedBytesAreTheEncoding :=
  fun _ _ _ _ h => (decode_eq_ok_iff.mp h).symm

/-- Settles O4: the decoder, run on each of the eight words. -/
theorem sampleWordsDecode : Obligations.SampleWordsDecode :=
  ⟨rfl, rfl, rfl, rfl, rfl, rfl, rfl, rfl⟩

/-! ## The opcode map -/

set_option maxRecDepth 20000 in
/-- The opcodes with no row even with OPT_FLAG_NOP on, found by looking up each of the 256 (R65, R66). -/
theorem lookup_true_isNone_iff : ∀ op : Byte, (lookup true op).isNone = true ↔
    op.toNat ∈ excludedOpcodes ∨ op.toNat ∈ illegalOpcodes := by
  decide

set_option maxRecDepth 20000 in
/-- The optional rows of the table (R170). -/
theorem row_optional_iff : ∀ d ∈ opcodeTable,
    d.mnemonic.optional = true ↔ d.opcode.toNat ∈ [0x18, 0x38, 0xB8, 0xEA] := by
  decide

/-- Settles O3: an absent row is absent from the table, or is optional and hidden by the option. -/
theorem absentOpcodes : Obligations.AbsentOpcodes := by
  intro opt op
  rw [← or_assoc, ← lookup_true_isNone_iff, lookup_eq_filter]
  cases h : lookup true op with
  | none => simp
  | some d =>
    obtain ⟨hmem, rfl⟩ := lookup_mem h
    rw [← row_optional_iff d hmem]
    simp [and_comm]

set_option maxRecDepth 20000 in
/-- Settles O5: the 63 rows of the column, looked up one by one. -/
theorem columnOneFollowsTheLayout : Obligations.ColumnOneFollowsTheLayout := by
  unfold Obligations.ColumnOneFollowsTheLayout
  decide

end Sys2Proof
end

section
/-! PROOFS. The addressing modes and the dispatch (40_addressing_dispatch.md): what the step makes of the bytes
at PC, where each mode finds its operand, and the cycle count. -/

namespace Sys2Proof

/-! ## Reading the operand bytes of a row -/

theorem Form.sample_eq_instr (f : Form) : f.sample = f.instr 0 := by
  cases f <;> rfl

/-- A row's length counts its opcode and its operand bytes (R64). -/
theorem row_length {d : Descriptor} (hd : d ∈ opcodeTable) : d.length = (d.form.operandBytes 0).length + 1 := by
  rw [← List.length_cons (a := d.opcode), ← (row_instr 0 hd).2, Machine.encode_length, Instr.length,
    ← Form.sample_eq_instr, Descriptor.length, Descriptor.mode]

section
variable {ε : Type} {get : Nat → Except ε Byte} {e : ε}

/-- Reading operand bytes stops at the first that the source does not give, and asks for none after it (R185). -/
theorem Form.read_of_first_error {f : Form} {w : Word} {k : Nat} (hk : k < (f.operandBytes w).length)
    (hget : ∀ j, j < k → ∃ b, get (j + 1) = .ok b) (he : get (k + 1) = .error e) : f.read get = .error e := by
  cases f with
  | single i => exact absurd hk (Nat.not_lt_zero k)
  | byte g =>
    obtain rfl : k = 0 := by simpa [Form.operandBytes] using hk
    simp only [Form.read, he]
  | word g =>
    have hk : k < 2 := hk
    interval_cases k
    · simp only [Form.read, he]
    · obtain ⟨lo, hlo⟩ := hget 0 (by decide)
      simp only [Form.read, hlo, he]

variable {opt : Bool} {absent : Byte → ε}

theorem decodeFrom_of_opcode_error (h : get 0 = .error e) : decodeFrom opt absent get = .error e := by
  simp only [decodeFrom, h]

theorem decodeFrom_of_read_error {op : Byte} {d : Descriptor} (h0 : get 0 = .ok op) (hd : lookup opt op = some d)
    (h : d.form.read get = .error e) : decodeFrom opt absent get = .error e := by
  simp only [decodeFrom, h0, hd, h]

end

namespace Machine

open Sys2Proof.Claims

/-! ## The step decodes the bytes at PC -/

theorem State.fetchByte_zero (s : State) : s.fetchByte 0 = s.read s.pc.toNat := by
  rw [State.fetchByte, BitVec.add_zero]

theorem State.fetchByte_backed {s : State} {k : Nat} (h : (s.pc + BitVec.ofNat 16 k).toNat ≤ Config.windowTop) :
    ∃ b, s.fetchByte k = .ok b := ⟨_, State.read_backed h⟩

/-- `execute` is given the byte the fetch loop read, so it decodes what stands at PC (R93, R204). -/
theorem State.instrOf_of_fetched {s : State} {op : Byte} (h : s.fetchByte 0 = .ok op) :
    s.instrOf op = decodeFrom s.params.optFlagNop .unimplementedOpcode s.fetchByte := by
  have hget : (fun k => if k = 0 then .ok op else s.fetchByte k) = s.fetchByte := by
    funext k
    split
    · next hk => rw [hk, h]
    · rfl
  rw [State.instrOf, hget]

/-- The step runs what decodes from the bytes at PC. -/
theorem step_of_decoded {s : State} {i : Instr}
    (h : decodeFrom s.params.optFlagNop .unimplementedOpcode s.fetchByte = .ok i) : step s = exec i s := by
  obtain ⟨op, -, h0, -⟩ := decodeFrom_ok h
  simp only [step, fetchAndExecute, h0, execute, State.instrOf_of_fetched h0, h]

/-- The step raises what the decoding of the bytes at PC rejects them with. -/
theorem step_of_decode_error {s : State} {e : Fault}
    (h : decodeFrom s.params.optFlagNop .unimplementedOpcode s.fetchByte = .error e) : step s = .fault e := by
  cases h0 : s.fetchByte 0 with
  | error e' =>
    obtain rfl : e' = e := Except.error.inj ((decodeFrom_of_opcode_error h0).symm.trans h)
    simp only [step, fetchAndExecute, h0, raise]
  | ok op => simp only [step, fetchAndExecute, h0, execute, State.instrOf_of_fetched h0, h, raise]

/-- Settles O8: decoding asks for the bytes in address order, so it meets the first unbacked address first. -/
theorem fetchFaultsOnAnUnbackedByte : Obligations.FetchFaultsOnAnUnbackedByte := by
  refine fun s => ⟨fun hpc => ?_, fun op d k hop hd hpos hk hbacked hunbacked => ?_⟩
  · refine step_of_decode_error (decodeFrom_of_opcode_error ?_)
    rw [State.fetchByte_zero, State.read_unbacked hpc]
  · obtain ⟨k, rfl⟩ := Nat.exists_eq_add_one_of_ne_zero hpos.ne'
    rw [row_length (lookup_mem hd).1] at hk
    rw [← State.fetchByte_zero] at hop
    exact step_of_decode_error <| decodeFrom_of_read_error hop hd <|
      Form.read_of_first_error (Nat.lt_of_succ_lt_succ hk)
        (fun j hj => State.fetchByte_backed (hbacked (j + 1) (Nat.succ_lt_succ hj))) (State.read_unbacked hunbacked)

/-- Settles O6: the bytes at PC are the encoding, which decodes to the instruction. -/
theorem stepRunsTheDecodedInstruction : Obligations.StepRunsTheDecodedInstruction :=
  fun _ _ hwf hbytes => step_of_decoded (decodeFrom_of_supplies hwf hbytes)

/-! ## Encodings and effective addresses by mode -/

theorem encode_of_operand {i : Instr} {o : Operand} (ho : i.operand = some o) : encode i = i.opcode :: o.bytes := by
  simp only [encode, ho]

/-- An instruction that `execute` reads has the bytes after PC as its operand bytes. -/
theorem State.fetchByte_of_instrOf {s : State} {op : Byte} {i : Instr} (h : s.instrOf op = .ok i) {k : Nat} {b : Byte}
    (hb : (encode i)[k + 1]? = some b) : s.fetchByte (k + 1) = .ok b :=
  (supplies_of_decodeFrom h).2 (k + 1) b hb

theorem exec_pc {i : Instr} {s t : State} (h : exec i s = .next t) : t.pc = s.pc + BitVec.ofNat 16 i.length := by
  obtain ⟨u, hu, rfl⟩ := exec_effect h
  rw [State.retire_pc, hu.pc]

/-- Settles O22: the operand byte is the encoding's second, so the fetch read it at PC + 1, which is EA. -/
theorem immediateIsTheNextByte : Obligations.ImmediateIsTheNextByte := by
  intro i v s ho
  have henc : encode i = [i.opcode, v] := encode_of_operand ho
  have hlen : i.length = 2 := length_of_operand ho
  refine ⟨henc, hlen, rfl, fun op hop => State.fetchByte_of_instrOf hop (k := 0) (by rw [henc]; rfl),
    fun t ht => ?_⟩
  rw [exec_pc ht, hlen]
  rfl

/-- A zero-page sum is taken modulo 2^8 (R80). -/
theorem zeroPageSum_toNat (z r : Byte) : ((z + r).setWidth 16).toNat = (z.toNat + r.toNat) % 256 := by
  rw [BitVec.toNat_setWidth_of_le (by decide), BitVec.toNat_add]

/-- A 16-bit sum with an index is taken modulo 2^16 (R80, D23). -/
theorem indexedSum_toNat (w : Word) (r : Byte) : (w + r.setWidth 16).toNat = (w.toNat + r.toNat) % 65536 := by
  rw [BitVec.toNat_add, BitVec.toNat_setWidth_of_le (by decide)]

/-- LDX and STX alone have the mode ZeroPage,Y (R85). -/
theorem mnemonic_of_zeroPageY {i : Instr} {z : Byte} (ho : i.operand = some (.zpy z)) :
    i.mnemonic = .ldx ∨ i.mnemonic = .stx := by
  cases i <;> simp_all [Instr.operand, Instr.mnemonic]

/-- Settles O23: the three modes have one operand byte, and their sums are bytes. -/
theorem zeroPageModesStayInPageZero : Obligations.ZeroPageModesStayInPageZero :=
  fun _ z s =>
    ⟨fun ho => ⟨encode_of_operand ho, length_of_operand ho, BitVec.toNat_setWidth_of_le (by decide)⟩,
      fun ho => ⟨encode_of_operand ho, length_of_operand ho, zeroPageSum_toNat z s.x⟩,
      fun ho => ⟨encode_of_operand ho, length_of_operand ho, mnemonic_of_zeroPageY ho, zeroPageSum_toNat z s.y⟩⟩

/-! ## Page crossings -/

theorem hiByte_toNat (w : Word) : (hiByte w).toNat = w.toNat / 256 := by
  have := w.isLt
  rw [hiByte, BitVec.toNat_ofNat]
  omega

theorem crossed_iff (base ea : Word) : crossed base ea = true ↔ base.toNat / 256 ≠ ea.toNat / 256 := by
  rw [crossed, bne_iff_ne, ← hiByte_toNat, ← hiByte_toNat, ne_eq, ne_eq, BitVec.toNat_inj]

/-- Settles O26: the predicate compares the high bytes, and the resolver's cases are those of the modes. -/
theorem onlyThreeModesCrossPages : Obligations.OnlyThreeModesCrossPages := by
  refine ⟨crossed_iff, fun o s => ?_⟩
  cases o <;> rfl

theorem crossed_indexed_iff (w : Word) (r : Byte) :
    crossed w (w + r.setWidth 16) = true ↔ w.toNat / 256 ≠ (w.toNat + r.toNat) % 65536 / 256 := by
  rw [crossed_iff, indexedSum_toNat]

/-- A 16-bit operand is encoded low byte first (R62, R86). -/
theorem encode_of_word_operand {i : Instr} {o : Operand} {w : Word} (ho : i.operand = some o)
    (hw : o.bytes = [loByte w, hiByte w]) :
    ∃ lo hi, encode i = [i.opcode, lo, hi] ∧ w.toNat = lo.toNat + hi.toNat * 256 :=
  ⟨loByte w, hiByte w, by rw [encode_of_operand ho, hw], by rw [← joinBytes_toNat, joinBytes_hi_lo]⟩

/-- Settles O24: the encoding holds the address itself; the index is added to it once. -/
theorem absoluteModesAddTheIndexOnce : Obligations.AbsoluteModesAddTheIndexOnce :=
  fun _ w s =>
    ⟨fun ho => ⟨encode_of_word_operand ho rfl, length_of_operand ho, rfl⟩,
      fun ho => ⟨encode_of_word_operand ho rfl, length_of_operand ho, indexedSum_toNat w s.x,
        crossed_indexed_iff w s.x⟩,
      fun ho => ⟨encode_of_word_operand ho rfl, length_of_operand ho, indexedSum_toNat w s.y,
        crossed_indexed_iff w s.y⟩⟩

/-! ## Zero-page pointers -/

/-- The two bytes of a pointer are read without a fault, the second wrapping within page 0 (R49, R89, R90). -/
theorem State.pointer_reads (s : State) (p : Byte) :
    ∃ lo hi, s.read p.toNat = .ok lo ∧ s.read ((p.toNat + 1) % 256) = .ok hi ∧
      (s.pointer p).toNat = lo.toNat + hi.toNat * 256 :=
  ⟨_, _, s.read_zeroPage p, by simpa [BitVec.toNat_add] using s.read_zeroPage (p + 1), joinBytes_toNat _ _⟩

/-- Settles O25: both modes read one pointer, (Indirect,X) at the indexed byte and (Indirect),Y at the operand
byte, whose value is then the base of the indexed sum. -/
theorem indirectModesReadAZeroPagePointer : Obligations.IndirectModesReadAZeroPagePointer := by
  refine fun i z s => ⟨fun ho => ⟨encode_of_operand ho, length_of_operand ho, rfl, ?_⟩,
    fun ho => ⟨encode_of_operand ho, length_of_operand ho, ?_⟩⟩
  · rw [← BitVec.toNat_add z s.x]
    exact s.pointer_reads (z + s.x)
  · obtain ⟨lo, hi, hlo, hhi, hp⟩ := s.pointer_reads z
    have hpage : (s.pointer z).toNat / 256 = hi.toNat := by
      have := lo.isLt
      omega
    refine ⟨lo, hi, hlo, hhi, ?_, ?_⟩
    · rw [← hp]
      exact indexedSum_toNat (s.pointer z) s.y
    · rw [← hp, ← hpage]
      exact crossed_indexed_iff (s.pointer z) s.y

/-! ## The cycle count and SetZN -/

theorem exec_lastCycles {i : Instr} {s t : State} (h : exec i s = .next t) :
    t.lastCycles = cyclesOf s.params i.opcode (crossing i s) := by
  obtain ⟨u, hu, rfl⟩ := exec_effect h
  rw [State.retire_lastCycles, hu.params]

set_option maxRecDepth 20000 in
/-- The marked rows of the table (R94). -/
theorem row_penalty_iff : ∀ d ∈ opcodeTable, d.penalty = true ↔
    d.mnemonic ∈ penaltyMnemonics ∧ d.mode ∈ [Mode.absoluteX, .absoluteY, .indirectY] := by
  decide

/-- The default table marks an instruction's opcode by its mnemonic and mode (R94). -/
theorem defaultCycles_penalty_iff (i : Instr) : (defaultCycles i.opcode).penalty = true ↔
    i.mnemonic ∈ penaltyMnemonics ∧ i.mode ∈ [Mode.absoluteX, .absoluteY, .indirectY] := by
  obtain ⟨d, hd, hmnemonic, hmode, -, -⟩ := Laws.Encoded.all i
  rw [← hmnemonic, ← hmode, ← row_penalty_iff d (lookup_mem hd).1]
  simp only [defaultCycles, hd]

/-- Settles O31: the count is the one the instruction retired with, and the default marks are the table's. -/
theorem cyclesAreBasePlusThePenalty : Obligations.CyclesAreBasePlusThePenalty := by
  refine ⟨rfl, rfl, fun i s t h => ⟨?_, fun hdefault => ?_⟩⟩
  · simp only [exec_lastCycles h, cyclesOf, Bool.and_eq_true]
  · rw [hdefault]
    exact defaultCycles_penalty_iff i

/-- Settles O29: a byte is 0 when its value is, and bit 7 is set from 128 on. -/
theorem setZNWritesZeroAndSign : Obligations.SetZNWritesZeroAndSign := by
  intro s v
  have hz : (v == 0) = decide (v.toNat = 0) := decide_eq_decide.mpr BitVec.toNat_inj.symm
  have hn : v.getLsbD 7 = decide (v.toNat ≥ 128) := BitVec.msb_eq_decide v
  rw [State.setZN, hz, hn]

end Machine

end Sys2Proof
end

section
/-! PROOFS. Loads and stores (41_load_store.md), from what any read-class instruction and any store leave when
their operand can be reached (R95, R97). -/

namespace Sys2Proof.Machine

open Sys2Proof.Claims

/-! ## An operand that can be read -/

theorem State.read_eq_cell_mod {s : State} {addr : Nat} (h : addr ≤ Config.windowTop) :
    s.read addr = .ok (s.mem.cell (addr % 2048)) := by
  rw [State.read_backed h, cellIndex_eq_mod]

/-- Loading a readable operand gives the byte it names: an Immediate's own, else the cell at EA (R95). -/
theorem loadOperand_of_readable {o : Operand} {s : State} (h : Readable o s) :
    loadOperand o s = .ok (value o s) := by
  obtain ⟨v, rfl⟩ | hbacked := h
  · rfl
  · cases o
    case imm v => rfl
    all_goals exact State.read_eq_cell_mod hbacked

/-! ## How an instruction with an operand completes -/

section
variable {i : Instr} {o : Operand} {s : State}

/-- Retiring an instruction that has moved neither PC nor the parameters finishes it (R93, R94). -/
theorem State.retire_eq_finished {u : State} (ho : i.operand = some o) (hpc : u.pc = s.pc)
    (hparams : u.params = s.params) :
    u.retire i.opcode o.mode.length (pageCrossed o s) = finished i s u := by
  rw [State.retire, finished, hpc, hparams, length_of_operand ho, crossing_of_operand ho]

/-- A read-class instruction completes when its operand can be read (R95). -/
theorem execRead_of_readable {f : State → Byte → State} (ho : i.operand = some o) (hr : Readable o s)
    (hpc : (f s (value o s)).pc = s.pc) (hparams : (f s (value o s)).params = s.params) :
    execRead i.opcode o f s = .next (finished i s (f s (value o s))) := by
  rw [execRead_of_load (loadOperand_of_readable hr), State.retire_eq_finished ho hpc hparams]

/-- A store completes when EA is backed: the cell EA reaches takes the byte, and the rest is finished (R97). -/
theorem execStore_stores (v : Byte) (ho : i.operand = some o)
    (hbacked : (effectiveAddress o s).toNat ≤ Config.windowTop) :
    ∃ t, execStore i.opcode o v s = .next t ∧ StoredAt s t (effectiveAddress o s).toNat v ∧
      { t with mem := s.mem } = finished i s s :=
  ⟨_, execStore_backed hbacked, storedAt_of_mem rfl, State.retire_eq_finished (u := s) ho rfl rfl⟩

end

/-! ## The six mnemonics -/

/-- Settles O36: each of the three is a read-class instruction that sets its register to the operand byte, then
Z and N from it. -/
theorem loadsCopyTheOperand : Obligations.LoadsCopyTheOperand := by
  intro i o s ho hr
  rw [exec_eq_execBy, execBy, ho]
  refine ⟨fun hm => ?_, fun hm => ?_, fun hm => ?_⟩ <;> rw [hm] <;> exact execRead_of_readable ho hr rfl rfl

/-- Settles O37: each of the three is a store of its register. -/
theorem storesWriteTheRegister : Obligations.StoresWriteTheRegister := by
  intro i o s ho hbacked v hv
  rw [exec_eq_execBy, execBy, ho]
  obtain ⟨hm, rfl⟩ | ⟨hm, rfl⟩ | ⟨hm, rfl⟩ := hv <;> rw [hm] <;> exact execStore_stores _ ho hbacked

end Sys2Proof.Machine
end

section
/-! PROOFS. Register transfers (42_transfer.md), from what any instruction of one byte leaves when it completes
(R91). -/

namespace Sys2Proof.Machine

open Sys2Proof.Claims

/-! ## How an instruction without an operand completes -/

theorem crossing_of_no_operand {i : Instr} (ho : i.operand = none) (s : State) : crossing i s = false := by
  rw [crossing, ho]

/-- An instruction of one byte, of which nothing holds back the effect, completes: it has no page crossing, and
what it leaves is finished (R91, R93, R94). -/
theorem exec_finishes_of_single {i : Instr} {s u : State} (hx : exec i s = execSingle i.opcode u)
    (ho : i.operand = none) (hpc : u.pc = s.pc) (hparams : u.params = s.params) :
    exec i s = .next (finished i s u) := by
  rw [hx, execSingle, State.retire, finished, hpc, hparams, length_of_no_operand ho, crossing_of_no_operand ho]

/-! ## The six transfers -/

/-- Settles O38: each of the five is an instruction of one byte that sets its register, then Z and N from it. -/
theorem transfersCopyARegister : Obligations.TransfersCopyARegister := by
  refine fun s => ⟨?_, ?_, ?_, ?_, ?_⟩ <;> exact exec_finishes_of_single rfl rfl rfl rfl

theorem exec_txs (s : State) : exec .txs s = execTxs s := rfl

/-- Settles O39: TXS is an instruction of one byte, whose parameter picks between its two effects (R11, D7). -/
theorem txsObeysItsParameter : Obligations.TxsObeysItsParameter := by
  refine fun s => ⟨fun hsets => ?_, fun hkeeps => ?_⟩
  · refine exec_finishes_of_single ?_ rfl rfl rfl
    rw [exec_txs, execTxs, if_pos hsets]
    rfl
  · refine exec_finishes_of_single ?_ rfl rfl rfl
    rw [exec_txs, execTxs, if_neg (Bool.eq_false_iff.mp hkeeps)]
    rfl

end Sys2Proof.Machine
end

section
/-! PROOFS. The stack (43_stack.md): what a push and a pull leave (R120, R121), the four instructions made of them
(R122 to R125), and that each pull gives back what its push left (R126). -/

namespace Sys2Proof.Machine

open Sys2Proof.Claims

/-! ## Push and pull -/

theorem toNat_sub_one (sp : Byte) : (sp - 1).toNat = (sp.toNat + 255) % 256 := by
  rw [BitVec.toNat_sub, Nat.add_comm]
  rfl

/-- Settles O40: the stack byte is backed, so the push is that write, with SP moved. -/
theorem pushWritesThenDecrements : Obligations.PushWritesThenDecrements :=
  fun s v => ⟨_, State.write_stack s v, storedAt_of_mem rfl, toNat_sub_one s.sp, rfl, rfl, Nat.le_add_right _ _,
    stackAddr_le s.sp⟩

/-- A pull leaves memory alone, so the byte it gives is one that the state before it reads (R121). -/
theorem State.read_next_stack_byte (s : State) : s.read (stackAddr (s.sp + 1)) = .ok s.pull.1 :=
  State.read_pull s

/-- Settles O41: the pull's read is at the SP one further, and only SP moves. -/
theorem pullIncrementsThenReads : Obligations.PullIncrementsThenReads := by
  refine fun s => ⟨State.read_next_stack_byte s, ?_⟩
  have hsp : s.sp + 1 = BitVec.ofNat 8 (s.sp.toNat + 1) := BitVec.eq_of_toNat_eq rfl
  rw [← hsp]
  rfl

theorem State.pull_of_read {s : State} {m : Byte} (h : s.read (stackAddr (s.sp + 1)) = .ok m) :
    s.pull = (m, s.incrementSP) := by
  have hbyte : s.pull.1 = m := Except.ok.inj ((State.read_next_stack_byte s).symm.trans h)
  rw [← hbyte]
  rfl

/-! ## The four instructions -/

/-- An instruction of one byte that pushes `v` completes: the stack byte takes `v`, SP moves, and the rest is
finished. -/
theorem exec_pushes {i : Instr} {s : State} {v : Byte} (hx : exec i s = execSingle i.opcode (s.push v))
    (ho : i.operand = none) :
    ∃ t, exec i s = .next t ∧ StoredAt s t (stackAddr s.sp) v ∧
      { t with mem := s.mem } = finished i s { s with sp := s.sp - 1 } :=
  ⟨_, exec_finishes_of_single hx ho rfl rfl, storedAt_of_mem rfl, rfl⟩

/-- Settles O42: each of the two pushes its byte. -/
theorem pushInstructions : Obligations.PushInstructions := by
  rintro i s v (⟨rfl, rfl⟩ | ⟨rfl, rfl⟩) <;> exact exec_pushes rfl rfl

theorem exec_pla (s : State) : exec .pla s = execPla s := rfl

theorem exec_plp (s : State) : exec .plp s = execPlp s := rfl

/-- Settles O43: PLA is an instruction of one byte, whose parameter picks between its two effects (R12, D6). -/
theorem plaObeysItsParameter : Obligations.PlaObeysItsParameter := by
  refine fun s m hread => ⟨fun hkeeps => ?_, fun hsets => ?_⟩
  · refine exec_finishes_of_single ?_ rfl rfl rfl
    rw [exec_pla, execPla, if_neg (Bool.eq_false_iff.mp hkeeps), State.pull_of_read hread]
    rfl
  · refine exec_finishes_of_single ?_ rfl rfl rfl
    rw [exec_pla, execPla, if_pos hsets, State.pull_of_read hread]
    rfl

/-- Settles O44: PLP unpacks the pulled byte. -/
theorem plpWritesSevenFlags : Obligations.PlpWritesSevenFlags := by
  refine fun s p hread => exec_finishes_of_single ?_ rfl rfl rfl
  rw [exec_plp, execPlp, State.pull_of_read hread]
  rfl

/-! ## A push, then a pull -/

/-- The byte a push has left is the one the next pull reads: SP moves down and up again (R126). -/
theorem read_pushed_byte {s t : State} {v : Byte} (h : StoredAt s t (stackAddr s.sp) v)
    (hsp : t.sp = s.sp - 1) : t.read (stackAddr (t.sp + 1)) = .ok v := by
  rw [hsp, sub_add_cancel, h, if_pos ⟨(stackAddr_le s.sp).trans (by decide), rfl⟩]

theorem storedAt_of_same_mem {s t u : State} {addr : Nat} {v : Byte} (h : StoredAt s t addr v) (hmem : u.mem = t.mem) :
    StoredAt s u addr v :=
  fun b => (State.read_of_mem hmem b).trans (h b)

/-- What `PushInstructions` says of the state after a push, as the pull that follows it needs it. -/
theorem pushed_of_next {i : Instr} {s t : State} {v : Byte}
    (hi : i = .pha ∧ v = s.a ∨ i = .php ∧ v = s.packStatus) (ht : exec i s = .next t) : StoredAt s t (stackAddr s.sp) v ∧ t.sp = s.sp - 1 := by
  obtain ⟨t', ht', hstored, hrest⟩ := pushInstructions i s v hi
  cases ht.symm.trans ht'
  exact ⟨hstored, congrArg State.sp hrest⟩

/-- What PLA leaves under either parameter. -/
theorem exec_pla_next {s u : State} {m : Byte} (hread : s.read (stackAddr (s.sp + 1)) = .ok m)
    (hu : exec .pla s = .next u) : u.a = m ∧ u.sp = s.sp + 1 ∧ u.mem = s.mem := by
  obtain ⟨hkeeps, hsets⟩ := plaObeysItsParameter s m hread
  cases hparam : s.params.plaSetsNZ with
  | false =>
    cases hu.symm.trans (hkeeps hparam)
    exact ⟨rfl, rfl, rfl⟩
  | true =>
    cases hu.symm.trans (hsets hparam)
    exact ⟨rfl, rfl, rfl⟩

/-- Settles O45: the pull reads what the push stored, brings SP back and stores nothing; the flags come back
because the status byte gives each of them its own bit. -/
theorem stackPairsRoundTrip : Obligations.StackPairsRoundTrip := by
  refine fun s t u => ⟨fun ht hu => ?_, fun ht hu => ?_⟩
  · obtain ⟨hstored, hsp⟩ := pushed_of_next (.inl ⟨rfl, rfl⟩) ht
    obtain ⟨ha, hsp', hmem⟩ := exec_pla_next (read_pushed_byte hstored hsp) hu
    refine ⟨ha, ?_, storedAt_of_same_mem hstored hmem⟩
    rw [hsp', hsp, sub_add_cancel]
  · obtain ⟨hstored, hsp⟩ := pushed_of_next (.inr ⟨rfl, rfl⟩) ht
    obtain ⟨hn, hv, -, hb, hd, hi, hz, hc⟩ := packStatusLayout s
    cases hu.symm.trans (plpWritesSevenFlags t _ (read_pushed_byte hstored hsp))
    refine ⟨⟨hn, hv, hb, hd, hi, hz, hc⟩, ?_, storedAt_of_same_mem hstored rfl⟩
    rw [finished, hsp, sub_add_cancel]

end Sys2Proof.Machine
end

section
/-! PROOFS. Logical (44_logical.md): AND, EOR, ORA and BIT, from what any read-class instruction leaves when its
operand can be read (R95). -/

namespace Sys2Proof.Machine

open Sys2Proof.Claims

/-! ## The bitwise operations -/

/-- Settles O46: each of the three is a read-class instruction that sets A to its bitwise result, then Z and N
from it. -/
theorem logicalResults : Obligations.LogicalResults := by
  intro i o s r ho hr hresult
  rw [exec_eq_execBy, execBy, ho]
  obtain ⟨hm, rfl⟩ | ⟨hm, rfl⟩ | ⟨hm, rfl⟩ := hresult <;> rw [hm] <;> exact execRead_of_readable ho hr rfl rfl

/-! ## BIT -/

/-- Bit 6 of a byte is set when what is left of its value without bit 7 is 64 or more. -/
theorem getLsbD_six_eq_decide (m : Byte) : m.getLsbD 6 = decide (m.toNat % 128 ≥ 64) := by
  rw [BitVec.getLsbD, Nat.testBit_eq_decide_div_mod_eq, decide_eq_decide]
  omega

/-- The flags of BIT as its statement has them: N and V from the value of the operand, Z from `A & M` (R133). -/
theorem State.bitFlags_eq (s : State) (m : Byte) :
    s.bitFlags m = { s with n := decide (m.toNat ≥ 128), v := decide (m.toNat % 128 ≥ 64),
                            z := decide (s.a &&& m = 0) } := by
  have hn : m.getLsbD 7 = decide (m.toNat ≥ 128) := BitVec.msb_eq_decide m
  rw [← hn, ← getLsbD_six_eq_decide]
  rfl

/-- Settles O47: BIT is a read-class instruction that sets those three flags. -/
theorem bitTestsTheOperand : Obligations.BitTestsTheOperand := by
  intro i o s hm ho hr
  rw [exec_eq_execBy, execBy, ho, hm, ← State.bitFlags_eq]
  exact execRead_of_readable ho hr rfl rfl

end Sys2Proof.Machine
end

section
/-! PROOFS. Arithmetic (45_arithmetic.md): the overflow predicate, ADC and SBC, the compares, and increment and
decrement of memory and of X and Y. -/

namespace Sys2Proof.Machine

open Sys2Proof.Claims

/-! ## A byte's flags as facts about its value -/

theorem beq_zero_eq_decide (v : Byte) : (v == 0) = decide (v.toNat = 0) :=
  decide_eq_decide.mpr BitVec.toNat_inj.symm

theorem getLsbD_seven_eq_decide (v : Byte) : v.getLsbD 7 = decide (128 ≤ v.toNat) :=
  BitVec.msb_eq_decide v

theorem le_toNat_iff_getLsbD_seven (v : Byte) : 128 ≤ v.toNat ↔ v.getLsbD 7 = true := by
  rw [getLsbD_seven_eq_decide, decide_eq_true_iff]

/-- The signed value of a byte (R140's `s`). -/
theorem toInt_eq_ite (v : Byte) : v.toInt = if 128 ≤ v.toNat then (v.toNat : Int) - 256 else v.toNat := by
  rw [BitVec.toInt_eq_msb_cond, BitVec.msb_eq_decide]
  simp

/-! ## The overflow predicate -/

/-- The mask 0x80 keeps bit 7 alone, so the predicate compares signs: the operands' agree, the result's differs. -/
theorem vAdd_iff_signs (a b r : Byte) :
    vAdd a b r = true ↔ (128 ≤ a.toNat ↔ 128 ≤ b.toNat) ∧ ¬(128 ≤ a.toNat ↔ 128 ≤ r.toNat) := by
  have hmask : (0x80#8) = BitVec.twoPow 8 7 := rfl
  rw [le_toNat_iff_getLsbD_seven, le_toNat_iff_getLsbD_seven, le_toNat_iff_getLsbD_seven, vAdd, hmask,
    BitVec.and_twoPow, BitVec.getLsbD_and, BitVec.getLsbD_not, BitVec.getLsbD_xor, BitVec.getLsbD_xor]
  generalize a.getLsbD 7 = sa, b.getLsbD 7 = sb, r.getLsbD 7 = sr
  revert sa sb sr
  decide

theorem adcResult_toNat (a m : Byte) (c : Bool) : (adcResult a m c).toNat = adcSum a m c % 256 :=
  BitVec.toNat_ofNat ..

/-- On ADC's result the predicate is signed overflow: equal signs of the operands put the unsigned sum within 256
of the signed one, so the result's sign is wrong exactly when the signed sum has left the range (R140). -/
theorem vAdd_adcResult (a b : Byte) (c : Bool) : vAdd a b (adcResult a b c) =
    decide (a.toInt + b.toInt + c.toNat < -128 ∨ 127 < a.toInt + b.toInt + c.toNat) := by
  have := a.isLt
  have := b.isLt
  have := c.toNat_le
  rw [Bool.eq_iff_iff, vAdd_iff_signs, adcResult_toNat, adcSum, toInt_eq_ite, toInt_eq_ite, decide_eq_true_iff]
  omega

/-- Settles O48: the formula is the definition's own; its equivalence is that of ADC's result. -/
theorem overflowPredicateIsSignedOverflow : Obligations.OverflowPredicateIsSignedOverflow := by
  refine fun a b cin => ⟨?_, ?_⟩
  · rw [vAdd, bne, decide_not]
    rfl
  · exact (Bool.eq_iff_iff.mp (vAdd_adcResult a b cin)).trans decide_eq_true_iff

/-! ## ADC and SBC -/

/-- The effect of ADC as its statement has it (R141). -/
theorem State.adcFlags_setA_eq (s : State) (m : Byte) :
    (s.adcFlags m).setA (adcResult s.a m s.c) =
      { s with a := BitVec.ofNat 8 (s.a.toNat + m.toNat + s.c.toNat),
               c := decide (255 < s.a.toNat + m.toNat + s.c.toNat),
               z := decide ((s.a.toNat + m.toNat + s.c.toNat) % 256 = 0),
               n := decide (128 ≤ (s.a.toNat + m.toNat + s.c.toNat) % 256),
               v := decide (s.a.toInt + m.toInt + s.c.toNat < -128 ∨ 127 < s.a.toInt + m.toInt + s.c.toNat) } := by
  rw [State.adcFlags, vAdd_adcResult, beq_zero_eq_decide, getLsbD_seven_eq_decide, adcResult_toNat]
  rfl

/-- Settles O49: ADC is a read-class instruction with that effect. -/
theorem adcAddsWithCarry : Obligations.AdcAddsWithCarry := by
  intro i o s hm ho hr
  dsimp only
  rw [exec_eq_execBy, execBy, ho, hm, ← State.adcFlags_setA_eq]
  exact execRead_of_readable ho hr rfl rfl

theorem sbcResult_toNat (a m : Byte) (c : Bool) : ((sbcResult a m c).toNat : Int) = sbcDiff a m c % 256 := by
  rw [sbcResult, BitVec.toNat_ofInt]
  omega

/-- A byte's complement has the signed value `-1 - s(m)`. -/
theorem toInt_complement (m : Byte) : (~~~m).toInt = -1 - m.toInt := by
  have := m.isLt
  rw [toInt_eq_ite, toInt_eq_ite, BitVec.toNat_not]
  omega

/-- Subtraction with borrow is addition of the complement with carry (D28). -/
theorem sbcResult_eq_adcResult (a m : Byte) (c : Bool) : sbcResult a m c = adcResult a (~~~m) c := by
  apply BitVec.eq_of_toNat_eq
  have hdiff := sbcResult_toNat a m c
  have := m.isLt
  rw [adcResult_toNat, adcSum, BitVec.toNat_not]
  rw [sbcDiff] at hdiff
  omega

/-- On SBC's result the predicate, taken on the complement, is overflow of the signed difference (D28). -/
theorem vAdd_sbcResult (a m : Byte) (c : Bool) : vAdd a (~~~m) (sbcResult a m c) =
    decide (a.toInt - m.toInt - (1 - c.toNat) < -128 ∨ 127 < a.toInt - m.toInt - (1 - c.toNat)) := by
  rw [sbcResult_eq_adcResult, vAdd_adcResult, toInt_complement, decide_eq_decide]
  omega

/-- The effect of SBC as its statement has it (R142). -/
theorem State.sbcFlags_setA_eq (s : State) (m : Byte) :
    (s.sbcFlags m).setA (sbcResult s.a m s.c) =
      { s with a := BitVec.ofInt 8 (sbcDiff s.a m s.c), c := decide (0 ≤ sbcDiff s.a m s.c),
               z := decide (sbcDiff s.a m s.c % 256 = 0), n := decide (128 ≤ sbcDiff s.a m s.c % 256),
               v := decide (s.a.toInt - m.toInt - (1 - s.c.toNat) < -128 ∨
                 127 < s.a.toInt - m.toInt - (1 - s.c.toNat)) } := by
  rw [State.sbcFlags, vAdd_sbcResult, beq_zero_eq_decide, getLsbD_seven_eq_decide, ← sbcResult_toNat]
  norm_cast

/-- Settles O50: SBC is a read-class instruction with that effect. -/
theorem sbcSubtractsWithBorrow : Obligations.SbcSubtractsWithBorrow := by
  intro i o s hm ho hr
  dsimp only
  rw [exec_eq_execBy, execBy, ho, hm]
  refine (execRead_of_readable ho hr rfl rfl).trans ?_
  rw [State.sbcFlags_setA_eq]
  rfl

/-! ## The compares -/

theorem sub_beq_zero (reg m : Byte) : (reg - m == 0) = decide (reg = m) :=
  decide_eq_decide.mpr sub_eq_zero

theorem toNat_sub_eq_mod (reg m : Byte) : (reg - m).toNat = (reg.toNat + 256 - m.toNat) % 256 := by
  have := m.isLt
  rw [BitVec.toNat_sub]
  omega

/-- Settles O51: the sign of the difference and its being zero, as facts about the two values. -/
theorem compareWritesThreeFlags : Obligations.CompareWritesThreeFlags := by
  intro s reg m
  rw [State.compareFlags, sub_beq_zero, getLsbD_seven_eq_decide, toNat_sub_eq_mod]

/-- A read-class instruction that compares `reg` with its operand completes with the three flags (R143). -/
theorem execRead_compares {i : Instr} {o : Operand} {s : State} (reg : State → Byte) (ho : i.operand = some o)
    (hr : Readable o s) :
    execRead i.opcode o (fun t m => t.compareFlags (reg t) m) s = .next (finished i s
      { s with n := (reg s - value o s).getLsbD 7, c := decide ((value o s).toNat ≤ (reg s).toNat),
               z := decide (reg s = value o s) }) := by
  rw [← sub_beq_zero]
  exact execRead_of_readable ho hr rfl rfl

/-- Settles O52: each of the three compares its register. -/
theorem compareInstructions : Obligations.CompareInstructions := by
  intro i o s reg ho hr hreg
  rw [exec_eq_execBy, execBy, ho]
  obtain ⟨hm, rfl⟩ | ⟨hm, rfl⟩ | ⟨hm, rfl⟩ := hreg <;> rw [hm]
  · exact execRead_compares State.a ho hr
  · exact execRead_compares State.x ho hr
  · exact execRead_compares State.y ho hr

/-! ## Increment and decrement -/

theorem ofNat_toNat_succ (b : Byte) : BitVec.ofNat 8 (b.toNat + 1) = b + 1 :=
  BitVec.eq_of_toNat_eq rfl

theorem ofNat_toNat_pred (b : Byte) : BitVec.ofNat 8 (b.toNat + 255) = b - 1 :=
  BitVec.eq_of_toNat_eq (toNat_sub_one b).symm

/-- A read-modify-write instruction whose flags take nothing from memory completes when EA is backed: the cell EA
reaches takes the result, and the rest is finished (R96). -/
theorem execModify_stores {i : Instr} {o : Operand} {s : State} {result : State → Byte → Byte}
    {flags : State → Byte → State} (ho : i.operand = some o)
    (hbacked : (effectiveAddress o s).toNat ≤ Config.windowTop)
    (hflags : ∀ m mem, flags { s with mem := mem } m = { flags s m with mem := mem })
    (hpc : ∀ m, (flags s m).pc = s.pc) (hparams : ∀ m, (flags s m).params = s.params)
    (hmem : ∀ m, (flags s m).mem = s.mem) :
    ∃ t, execModify i.opcode o result flags s = .next t ∧
      StoredAt s t (effectiveAddress o s).toNat (result s (value o s)) ∧
      { t with mem := s.mem } = finished i s (flags s (value o s)) := by
  refine ⟨_, execModify_of_load (loadOperand_of_readable (.inr hbacked)) hbacked, ?_, ?_⟩ <;> rw [hflags]
  · exact storedAt_of_mem rfl
  · rw [← State.retire_eq_finished ho (hpc _) (hparams _), ← hmem (value o s)]
    rfl

/-- Settles O53: both are read-modify-write instructions whose flags are Z and N of the result. -/
theorem incrementAndDecrementMemory : Obligations.IncrementAndDecrementMemory := by
  intro i o s r ho hbacked hr
  rw [ofNat_toNat_succ, ofNat_toNat_pred] at hr
  rw [exec_eq_execBy, execBy, ho]
  obtain ⟨hm, rfl⟩ | ⟨hm, rfl⟩ := hr <;> rw [hm] <;>
    exact execModify_stores ho hbacked (fun _ _ => rfl) (fun _ => rfl) (fun _ => rfl) fun _ => rfl

/-- Settles O54: each of the four is an instruction of one byte that sets its register, then Z and N from it. -/
theorem incrementAndDecrementRegisters : Obligations.IncrementAndDecrementRegisters := by
  intro s
  simp only [ofNat_toNat_succ, ofNat_toNat_pred]
  refine ⟨?_, ?_, ?_, ?_⟩ <;> exact exec_finishes_of_single rfl rfl rfl rfl

end Sys2Proof.Machine
end

section
/-! PROOFS. Shifts and rotates (46_shift.md): the results and the bits shifted out in arithmetic, then the four
on A and on memory. -/

namespace Sys2Proof.Machine

open Sys2Proof.Claims

/-! ## Results in arithmetic -/

/-- Shifting left doubles modulo 256 (R160). -/
theorem aslResult_eq (m : Byte) (c : Bool) : aslResult m c = BitVec.ofNat 8 (2 * m.toNat) := by
  apply BitVec.eq_of_toNat_eq
  rw [aslResult, BitVec.toNat_shiftLeft, Nat.shiftLeft_eq, BitVec.toNat_ofNat, mul_comm, pow_one]

/-- Shifting right halves (R161). -/
theorem lsrResult_eq (m : Byte) (c : Bool) : lsrResult m c = BitVec.ofNat 8 (m.toNat / 2) := by
  apply BitVec.eq_of_toNat_eq
  have := m.isLt
  rw [lsrResult, BitVec.toNat_ushiftRight, Nat.shiftRight_eq_div_pow, BitVec.toNat_ofNat]
  omega

theorem carryIn_eq (c : Bool) : carryIn c = BitVec.ofNat 8 c.toNat := by
  cases c <;> rfl

theorem carryIn_shiftLeft_seven_eq (c : Bool) : carryIn c <<< 7 = BitVec.ofNat 8 (128 * c.toNat) := by
  cases c <;> rfl

/-- The doubled byte leaves bit 0 free for the carry, so the two are added (R162). -/
theorem rolResult_eq (m : Byte) (c : Bool) : rolResult m c = BitVec.ofNat 8 (2 * m.toNat + c.toNat) := by
  have hor : 2 * m.toNat + c.toNat = 2 * m.toNat ||| c.toNat := Nat.two_pow_add_eq_or_of_lt (i := 1) c.toNat_lt _
  rw [hor, BitVec.ofNat_or, ← aslResult_eq m c, ← carryIn_eq]
  rfl

/-- The halved byte leaves bit 7 free for the carry, so the two are added (R163). -/
theorem rorResult_eq (m : Byte) (c : Bool) : rorResult m c = BitVec.ofNat 8 (m.toNat / 2 + 128 * c.toNat) := by
  have hhalf : m.toNat / 2 < 2 ^ 7 := Nat.div_lt_of_lt_mul m.isLt
  have hor : 128 * c.toNat + m.toNat / 2 = 128 * c.toNat ||| m.toNat / 2 := Nat.two_pow_add_eq_or_of_lt hhalf _
  rw [add_comm, hor, Nat.or_comm, BitVec.ofNat_or, ← lsrResult_eq m c, ← carryIn_shiftLeft_seven_eq]
  rfl

theorem getLsbD_zero_eq_decide (m : Byte) : m.getLsbD 0 = decide (m.toNat % 2 = 1) :=
  Nat.testBit_zero m.toNat

/-! ## The specification's pair of result and carry out is the model's -/

section
variable (m : Byte) (c : Bool)

@[simp] theorem shifted_asl : shifted .asl m c = some (aslResult m c, m.getLsbD 7) := by
  rw [aslResult_eq, getLsbD_seven_eq_decide]
  rfl

@[simp] theorem shifted_lsr : shifted .lsr m c = some (lsrResult m c, m.getLsbD 0) := by
  rw [lsrResult_eq, getLsbD_zero_eq_decide]
  rfl

@[simp] theorem shifted_rol : shifted .rol m c = some (rolResult m c, m.getLsbD 7) := by
  rw [rolResult_eq, getLsbD_seven_eq_decide]
  rfl

@[simp] theorem shifted_ror : shifted .ror m c = some (rorResult m c, m.getLsbD 0) := by
  rw [rorResult_eq, getLsbD_zero_eq_decide]
  rfl

end

theorem mnemonic_of_shifted {k : Mnemonic} {m : Byte} {c : Bool} {p : Byte × Bool} (h : shifted k m c = some p) :
    k = .asl ∨ k = .lsr ∨ k = .rol ∨ k = .ror := by
  cases k <;> simp_all [shifted]

/-! ## On A -/

theorem eq_of_accumulator {i : Instr} (h : i.mode = .accumulator) :
    i = .aslA ∨ i = .lsrA ∨ i = .rolA ∨ i = .rorA := by
  cases i <;> simp_all [Instr.mode, Instr.operand, Instr.mnemonic, Operand.mode]

/-- Settles O55: each of the four is an instruction of one byte that sets A to its result, C to the bit shifted
out, then Z and N from the result. -/
theorem accumulatorShifts : Obligations.AccumulatorShifts := by
  intro i s r out hmode hshift
  obtain rfl | rfl | rfl | rfl := eq_of_accumulator hmode <;>
    simp only [Instr.mnemonic, shifted_asl, shifted_lsr, shifted_rol, shifted_ror] at hshift <;>
    cases hshift <;> exact exec_finishes_of_single rfl rfl rfl rfl

/-! ## On memory -/

/-- Settles O56: each of the four is a read-modify-write instruction whose flags are the bit shifted out, then Z
and N of the result. -/
theorem memoryShifts : Obligations.MemoryShifts := by
  intro i o s r out ho hbacked hshift
  rw [exec_eq_execBy, execBy, ho]
  obtain hm | hm | hm | hm := mnemonic_of_shifted hshift <;>
    simp only [hm, shifted_asl, shifted_lsr, shifted_rol, shifted_ror] at hshift ⊢ <;>
    cases hshift <;>
    exact execModify_stores ho hbacked (fun _ _ => rfl) (fun _ => rfl) (fun _ => rfl) fun _ => rfl

end Sys2Proof.Machine
end

section
/-! PROOFS. The optional instructions (47_optional_flag_nop.md): their effects with OPT_FLAG_NOP, and what the
core makes of an opcode that has no row, theirs without the option among them (R66, R170, R181). -/

namespace Sys2Proof.Machine

open Sys2Proof.Claims

/-! ## With the option -/

theorem execOptional_with {op : Byte} {u s : State} (h : s.params.optFlagNop = true) :
    execOptional op u s = execSingle op u := if_pos h

theorem execOptional_without {op : Byte} {u s : State} (h : s.params.optFlagNop = false) :
    execOptional op u s = .fault (.unimplementedOpcode op) := if_neg (Bool.eq_false_iff.mp h)

/-- Settles O57: with the option each of the four is an instruction of one byte that sets its flag, or nothing. -/
theorem optionalInstructions : Obligations.OptionalInstructions := by
  refine fun s hopt => ⟨?_, ?_, ?_, ?_⟩ <;> exact exec_finishes_of_single (execOptional_with hopt) rfl rfl rfl

/-! ## An opcode with no row -/

section
variable {s : State} {op : Byte}

theorem State.instrOf_of_absent (h : lookup s.params.optFlagNop op = none) :
    s.instrOf op = .error (.unimplementedOpcode op) := by
  simp only [State.instrOf, decodeFrom, if_true, h]

theorem execute_of_absent (h : lookup s.params.optFlagNop op = none) :
    execute op s = .fault (.unimplementedOpcode op) := by
  simp only [execute, State.instrOf_of_absent h, raise]

theorem step_of_opcode (h : s.read s.pc.toNat = .ok op) : step s = execute op s := by
  simp only [step, fetchAndExecute, State.fetchByte_zero, h]

theorem step_of_absent (hop : s.read s.pc.toNat = .ok op) (h : lookup s.params.optFlagNop op = none) :
    step s = .fault (.unimplementedOpcode op) :=
  (step_of_opcode hop).trans (execute_of_absent h)

theorem hostCall_execute_of_fault {e : Fault} (h : execute op s = .fault e) (free : Nat) :
    hostCall free (.execute op) s = (.err e, s.afterFault free (opcodeLength s.params.optFlagNop op) e) := by
  simp only [hostCall, h]

end

/-- Settles O7: the opcode is looked up before any effect, and its exception leaves the caller its own state. -/
theorem absentOpcodeRaisesUnimplemented : Obligations.AbsentOpcodeRaisesUnimplemented :=
  fun _ _ h => ⟨execute_of_absent h, hostCall_execute_of_fault (execute_of_absent h), fun hop => step_of_absent hop h⟩

/-! ## Without the option -/

theorem lookup_optional_opcode {op : Byte} (h : op ∈ [0x18#8, 0x38#8, 0xB8#8, 0xEA#8]) : lookup false op = none :=
  Option.isNone_iff_eq_none.mp <|
    (absentOpcodes false op).mpr (.inr (.inr ⟨rfl, List.mem_map_of_mem (f := BitVec.toNat) h⟩))

/-- CLI, SEI, CLD and SED are among the excluded opcodes (R66). -/
theorem lookup_interrupt_or_decimal_opcode (opt : Bool) {op : Byte} (h : op ∈ [0x58#8, 0x78#8, 0xD8#8, 0xF8#8]) :
    lookup opt op = none := by
  have hex : [0x58, 0x78, 0xD8, 0xF8] ⊆ excludedOpcodes := by decide
  exact Option.isNone_iff_eq_none.mp <|
    (absentOpcodes opt op).mpr (.inl (hex (List.mem_map_of_mem (f := BitVec.toNat) h)))

/-- Settles O58: the opcodes have no row, and the four instructions look at the option before their effect. -/
theorem optionalOpcodesAbsentWithoutTheOption : Obligations.OptionalOpcodesAbsentWithoutTheOption := by
  refine fun s op hop => ⟨fun hopt hmem => ?_, fun hmem => ?_, fun hopt => ?_⟩
  · exact step_of_absent hop (by rw [hopt, lookup_optional_opcode hmem])
  · exact step_of_absent hop (lookup_interrupt_or_decimal_opcode _ hmem)
  · refine ⟨?_, ?_, ?_, ?_⟩ <;> exact execOptional_without hopt

end Sys2Proof.Machine
end

section
/-! PROOFS. Exceptions (60_exceptions.md): which of the three each instruction, `execute` and the step can raise,
and what OutOfRange leaves behind (R180 to R184). -/

namespace Sys2Proof.Machine

open Sys2Proof.Claims

/-! ## Operands that can be reached, and operands that cannot -/

theorem State.read_eq_error {s : State} {addr : Nat} {e : Fault} (h : s.read addr = .error e) :
    Config.windowTop < addr ∧ e = .outOfRange addr := by
  obtain ⟨-, hr⟩ | ⟨ha, hr⟩ := s.read_cases addr <;> rw [hr] at h <;> cases h
  exact ⟨ha, rfl⟩

section
variable {op : Byte} {o : Operand} {s : State} {f flags : State → Byte → State} {v : Byte}
  {result : State → Byte → Byte}

theorem readable_iff_of_memory (hmem : ∀ v, o ≠ .imm v) :
    Readable o s ↔ (effectiveAddress o s).toNat ≤ Config.windowTop :=
  or_iff_right fun ⟨v, hv⟩ => hmem v hv

theorem unbacked_of_not_readable (h : ¬ Readable o s) : Config.windowTop < (effectiveAddress o s).toNat :=
  Nat.lt_of_not_le fun ha => h (.inr ha)

/-- Loading an operand that cannot be read raises OutOfRange of EA (R95, R182). -/
theorem loadOperand_of_not_readable (h : ¬ Readable o s) :
    loadOperand o s = .error (.outOfRange (effectiveAddress o s).toNat) := by
  obtain ⟨v, rfl, -⟩ | ⟨-, hload⟩ := loadOperand_cases o s
  · exact absurd (.inl ⟨v, rfl⟩) h
  · rw [hload, State.read_unbacked (unbacked_of_not_readable h)]

theorem execRead_of_not_readable (h : ¬ Readable o s) :
    execRead op o f s = .fault (.outOfRange (effectiveAddress o s).toNat) := by
  simp only [execRead, loadOperand_of_not_readable h, raise]

theorem execStore_of_not_readable (h : ¬ Readable o s) :
    execStore op o v s = .fault (.outOfRange (effectiveAddress o s).toNat) := by
  simp only [execStore, State.write_unbacked v (unbacked_of_not_readable h), raise]

theorem execModify_of_not_readable (h : ¬ Readable o s) :
    execModify op o result flags s = .fault (.outOfRange (effectiveAddress o s).toNat) := by
  simp only [execModify, loadOperand_of_not_readable h, raise]

end

/-! ## Every instruction: it completes, or raises one of two exceptions -/

/-- Only the read-class mnemonics have an Immediate form (R82, R95). -/
theorem memory_of_store_or_modify {i : Instr} {o : Operand} (ho : i.operand = some o)
    (hm : i.mnemonic ∈ [.sta, .stx, .sty] ∨ i.mnemonic ∈ [.inc, .dec, .asl, .lsr, .rol, .ror]) :
    ∀ v, o ≠ .imm v := by
  rintro v rfl
  cases i <;> simp_all [Instr.operand, Instr.mnemonic]

/-- An instruction with an operand is of the read class, or it writes the memory at EA (R95 to R97). -/
theorem exec_of_operand {i : Instr} {o : Operand} (ho : i.operand = some o) (s : State) :
    (∃ f, exec i s = execRead i.opcode o f s) ∨
      (∀ v, o ≠ .imm v) ∧ ((∃ v, exec i s = execStore i.opcode o v s) ∨
        ∃ result flags, exec i s = execModify i.opcode o result flags s) := by
  rw [exec_eq_execBy, execBy, ho]
  rcases mnemonic_of_operand ho with hm | hm | hm
  · simp only [List.mem_cons, List.not_mem_nil, or_false] at hm
    rcases hm with hm | hm | hm | hm | hm | hm | hm | hm | hm | hm | hm | hm <;> rw [hm] <;> exact .inl ⟨_, rfl⟩
  · refine .inr ⟨memory_of_store_or_modify ho (.inl hm), .inl ?_⟩
    simp only [List.mem_cons, List.not_mem_nil, or_false] at hm
    rcases hm with hm | hm | hm <;> rw [hm] <;> exact ⟨_, rfl⟩
  · refine .inr ⟨memory_of_store_or_modify ho (.inr hm), .inr ?_⟩
    simp only [List.mem_cons, List.not_mem_nil, or_false] at hm
    rcases hm with hm | hm | hm | hm | hm | hm <;> rw [hm] <;> exact ⟨_, _, rfl⟩

/-- R182, R184: an operand in memory at an unbacked EA. -/
theorem exec_of_not_readable {i : Instr} {o : Operand} {s : State} (ho : i.operand = some o) (h : ¬ Readable o s) :
    exec i s = .fault (.outOfRange (effectiveAddress o s).toNat) := by
  obtain ⟨f, hx⟩ | ⟨-, ⟨v, hx⟩ | ⟨result, flags, hx⟩⟩ := exec_of_operand ho s <;> rw [hx]
  · exact execRead_of_not_readable h
  · exact execStore_of_not_readable h
  · exact execModify_of_not_readable h

theorem exec_completes_of_readable {i : Instr} {o : Operand} {s : State} (ho : i.operand = some o)
    (h : Readable o s) : ∃ t, exec i s = .next t := by
  obtain ⟨f, hx⟩ | ⟨hmem, ⟨v, hx⟩ | ⟨result, flags, hx⟩⟩ := exec_of_operand ho s <;> rw [hx]
  · exact ⟨_, execRead_of_load (loadOperand_of_readable h)⟩
  · exact ⟨_, execStore_backed ((readable_iff_of_memory hmem).mp h)⟩
  · exact ⟨_, execModify_of_load (loadOperand_of_readable h) ((readable_iff_of_memory hmem).mp h)⟩

/-- The optional mnemonics are those whose meaning asks for OPT_FLAG_NOP (R170). -/
theorem exec_of_optional {i : Instr} (h : i.mnemonic.optional = true) (s : State) :
    ∃ u, exec i s = execOptional i.opcode u s := by
  cases i <;> cases h <;> exact ⟨_, rfl⟩

theorem exec_of_single {i : Instr} (ho : i.operand = none) (h : i.mnemonic.optional = false) (s : State) :
    ∃ u, exec i s = execSingle i.opcode u := by
  cases i <;> cases ho <;> cases h <;> exact ⟨_, rfl⟩

theorem exec_of_not_wf {i : Instr} {s : State} (h : i.wf s.params.optFlagNop = false) :
    exec i s = .fault (.unimplementedOpcode i.opcode) := by
  obtain ⟨hi, hopt⟩ : i.mnemonic.optional = true ∧ s.params.optFlagNop = false := by simpa [Instr.wf] using h
  obtain ⟨u, hx⟩ := exec_of_optional hi s
  rw [hx, execOptional_without hopt]

theorem exec_completes_of_no_operand {i : Instr} {s : State} (ho : i.operand = none)
    (h : i.wf s.params.optFlagNop = true) : ∃ t, exec i s = .next t := by
  cases hi : i.mnemonic.optional with
  | false =>
    obtain ⟨u, hx⟩ := exec_of_single ho hi s
    exact ⟨_, hx⟩
  | true =>
    have hopt : s.params.optFlagNop = true := by simpa [Instr.wf, hi] using h
    obtain ⟨u, hx⟩ := exec_of_optional hi s
    exact ⟨_, hx.trans (execOptional_with hopt)⟩

/-- An instruction the core has, whose operand can be reached if it has one, answers a next state. -/
theorem exec_completes {i : Instr} {s : State} (hr : ∀ o, i.operand = some o → Readable o s)
    (h : i.wf s.params.optFlagNop = true) : ∃ t, exec i s = .next t := by
  cases ho : i.operand with
  | some o => exact exec_completes_of_readable ho (hr o ho)
  | none => exact exec_completes_of_no_operand ho h

/-- Settles O10: an instruction can fail to reach its operand, and an optional one can lack its option; nothing
else stops it. -/
theorem execCompletesExactlyWhenItsAccessIsBacked : Obligations.ExecCompletesExactlyWhenItsAccessIsBacked :=
  fun _ _ => ⟨fun _ => exec_of_not_readable, exec_of_not_wf, exec_completes⟩

/-- Everything an instruction the core has can do. -/
theorem exec_cases {i : Instr} {s : State} (h : i.wf s.params.optFlagNop = true) :
    (∃ t, exec i s = .next t) ∨ ∃ addr, Config.windowTop < addr ∧ exec i s = .fault (.outOfRange addr) := by
  by_cases hr : ∀ o, i.operand = some o → Readable o s
  · exact .inl (exec_completes hr h)
  · push Not at hr
    obtain ⟨o, ho, hr⟩ := hr
    exact .inr ⟨_, unbacked_of_not_readable hr, exec_of_not_readable ho hr⟩

/-! ## The step: it completes, or raises one of the same two -/

section
variable {ε : Type} {get : Nat → Except ε Byte} {e : ε}

/-- Reading operand bytes fails only where the source fails to give one. -/
theorem get_eq_error_of_read {f : Form} (h : f.read get = .error e) : ∃ k, get k = .error e := by
  cases f with
  | single i => cases h
  | byte g =>
    cases h1 : get 1 with
    | error e' => exact ⟨1, by simpa [Form.read, h1] using h⟩
    | ok b => simp [Form.read, h1] at h
  | word g =>
    cases h1 : get 1 with
    | error e' => exact ⟨1, by simpa [Form.read, h1] using h⟩
    | ok lo =>
      cases h2 : get 2 with
      | error e' => exact ⟨2, by simpa [Form.read, h1, h2] using h⟩
      | ok hi => simp [Form.read, h1, h2] at h

/-- Decoding is rejected for an opcode with no row, or where the source fails to give a byte. -/
theorem decodeFrom_eq_error {opt : Bool} {absent : Byte → ε} (h : decodeFrom opt absent get = .error e) :
    (∃ op, get 0 = .ok op ∧ lookup opt op = none ∧ e = absent op) ∨ ∃ k, get k = .error e := by
  unfold decodeFrom at h
  split at h
  · next e' h0 =>
    cases h
    exact .inr ⟨0, h0⟩
  · next op h0 =>
    split at h
    · next hd => exact .inl ⟨op, h0, hd, (Except.error.inj h).symm⟩
    · exact .inr (get_eq_error_of_read h)

end

/-- Everything a step can do (R180, R182). -/
theorem step_cases (s : State) :
    (∃ t, step s = .next t) ∨ (∃ addr, Config.windowTop < addr ∧ step s = .fault (.outOfRange addr)) ∨
      ∃ op, s.read s.pc.toNat = .ok op ∧ lookup s.params.optFlagNop op = none ∧
        step s = .fault (.unimplementedOpcode op) := by
  cases hdec : decodeFrom s.params.optFlagNop .unimplementedOpcode s.fetchByte with
  | ok i =>
    obtain ⟨hwf, -⟩ := supplies_of_decodeFrom hdec
    rw [step_of_decoded hdec]
    exact (exec_cases hwf).imp_right .inl
  | error e =>
    obtain ⟨op, hop, habsent, rfl⟩ | ⟨k, hk⟩ := decodeFrom_eq_error hdec
    · exact .inr (.inr ⟨op, (State.fetchByte_zero s).symm.trans hop, habsent, step_of_decode_error hdec⟩)
    · obtain ⟨ha, rfl⟩ := State.read_eq_error hk
      exact .inr (.inl ⟨_, ha, step_of_decode_error hdec⟩)

/-- Settles O9: the second and the third thing a step can do. -/
theorem stepStopsOnlyByTheTwoExceptions : Obligations.StepStopsOnlyByTheTwoExceptions := by
  intro s
  obtain ⟨t, hs⟩ | ⟨addr, ha, hs⟩ | ⟨op, hop, habsent, hs⟩ := step_cases s <;> rw [hs] <;>
    refine ⟨fun r h => (nomatch h), fun e he => ?_⟩ <;> cases he
  · exact .inl ⟨addr, ha, rfl⟩
  · exact .inr ⟨op, hop, habsent, rfl⟩

/-! ## After OutOfRange -/

/-- Everything the caller's `execute` can answer, with the state it leaves (R209). -/
theorem hostCall_execute_cases (free : Nat) (op : Byte) (s : State) :
    (∃ t, execute op s = .next t ∧ hostCall free (.execute op) s = (.cycles t.lastCycles, t)) ∨
      (∃ e, execute op s = .fault e ∧ hostCall free (.execute op) s =
        (.err e, s.afterFault free (opcodeLength s.params.optFlagNop op) e)) ∨
      ∃ r, execute op s = .refused r ∧ hostCall free (.execute op) s = (.refused r, s) := by
  cases hx : execute op s <;> simp [hostCall, hx]

/-- The caller gets an exception from `execute` only where `execute` raises it. -/
theorem hostCall_execute_err {free : Nat} {op : Byte} {s t : State} {e : Fault}
    (h : hostCall free (.execute op) s = (.err e, t)) :
    execute op s = .fault e ∧ t = s.afterFault free (opcodeLength s.params.optFlagNop op) e := by
  obtain ⟨_, -, hc⟩ | ⟨_, hx, hc⟩ | ⟨_, -, hc⟩ := hostCall_execute_cases free op s <;> cases hc.symm.trans h
  exact ⟨hx, rfl⟩

theorem descriptor_length_pos (d : Descriptor) : 0 < d.length := by
  unfold Descriptor.length
  cases d.mode <;> decide

/-- Settles O60: an opcode with no row raises the other exception, and the open PC is counted modulo the length. -/
theorem stateAfterOutOfRange : Obligations.StateAfterOutOfRange := by
  intro free op s t addr h
  obtain ⟨hx, rfl⟩ := hostCall_execute_err h
  cases hd : lookup s.params.optFlagNop op with
  | none => cases (execute_of_absent hd).symm.trans hx
  | some d =>
    have hlen : opcodeLength s.params.optFlagNop op = d.length := by rw [opcodeLength, hd]
    have hk : free % d.length < d.length := Nat.mod_lt free (descriptor_length_pos d)
    refine ⟨rfl, d, 1 + free % d.length, rfl, by omega, by omega, ?_⟩
    rw [hlen]
    rfl

end Sys2Proof.Machine
end

section
/-! PROOFS. Reset and hazards (70_reset_and_hazards.md): how a run ends normally (R205), and the caller's
operations (R209). -/

namespace Sys2Proof.Machine

open Sys2Proof.Safety

/-! ## The normal end -/

/-- The step raises UnimplementedOpcode of an opcode exactly when it reads that opcode at PC and finds no row. -/
theorem step_eq_unimplemented_iff {s : State} {op : Byte} : step s = .fault (.unimplementedOpcode op) ↔
    s.read s.pc.toNat = .ok op ∧ lookup s.params.optFlagNop op = none := by
  refine ⟨fun h => ?_, fun ⟨hop, habsent⟩ => step_of_absent hop habsent⟩
  obtain ⟨t, hs⟩ | ⟨addr, -, hs⟩ | ⟨op', hop, habsent, hs⟩ := step_cases s <;> cases hs.symm.trans h
  exact ⟨hop, habsent⟩

/-- R205: the run ends normally at the halt address with the opcode of an UnimplementedOpcode. -/
theorem stepEnd_eq_normal_iff {h : Word} {s : State} {op : Byte} :
    stepEnd h s = some (.normal op) ↔ s.pc = h ∧ step s = .fault (.unimplementedOpcode op) := by
  obtain ⟨t, hs⟩ | ⟨addr, -, hs⟩ | ⟨op', -, -, hs⟩ := step_cases s
  · simp [stepEnd, hs]
  · simp [stepEnd, hs]
  · by_cases hpc : s.pc = h <;> simp [stepEnd, hs, hpc]

/-- Settles O11: the step's UnimplementedOpcode is what ends a run normally, and says what stands at PC. -/
theorem normalEndIsAnAbsentOpcodeAtH : Obligations.NormalEndIsAnAbsentOpcodeAtH :=
  fun _ _ _ => stepEnd_eq_normal_iff.trans (and_congr_right' step_eq_unimplemented_iff)

/-! ## The caller's operations keep the invariant -/

theorem hostCall_write_of_ok {addr : Nat} {v : Byte} {s t : State} (h : s.write addr v = .ok t) (free : Nat) :
    hostCall free (.write addr v) s = (.nothing, t) := by
  simp [hostCall, h]

section
variable {s : State} (hs : s.mem.wf) (free : Nat)
include hs

theorem hostCall_execute_wf (op : Byte) : (hostCall free (.execute op) s).2.mem.wf := by
  obtain ⟨t, hx, hc⟩ | ⟨e, -, hc⟩ | ⟨r, -, hc⟩ := hostCall_execute_cases free op s <;> rw [hc]
  · obtain ⟨i, -, hi⟩ := execute_next hx
    exact exec_wf hs hi
  · obtain ⟨w, hw⟩ := s.afterFault_eq free (opcodeLength s.params.optFlagNop op) e
    rw [hw]
    exact hs
  · exact hs

theorem hostCall_setReg_wf (r : Reg) (value : Nat) : (hostCall free (.setReg r value) s).2.mem.wf := by
  obtain hlt | hge := Nat.lt_or_ge value (2 ^ r.width)
  · obtain ⟨t, ht, -, -, -, hmem⟩ := s.setReg_fits hlt
    rw [hostCall_setReg_of_ok ht, hmem]
    exact hs
  · rw [hostCall_setReg_of_error (s.setReg_too_wide hge)]
    exact hs

theorem hostCall_write_wf (addr : Nat) (v : Byte) : (hostCall free (.write addr v) s).2.mem.wf := by
  cases hw : s.write addr v with
  | ok t =>
    rw [hostCall_write_of_ok hw]
    exact State.write_wf hs hw
  | error e =>
    rw [hostCall_write_of_error hw]
    exact hs

end

/-- Settles O19: `execute` runs one instruction, a write stores one cell, `clear` empties the list, and no other
operation touches the memory. -/
theorem hostCallsKeepTheInvariant : Obligations.HostCallsKeepTheInvariant := by
  intro free call s hs
  cases call with
  | execute op => exact hostCall_execute_wf hs free op
  | setReg r value => exact hostCall_setReg_wf hs free r value
  | setFlag f value => cases f <;> exact hs
  | read addr =>
    rw [hostCall_read_state]
    exact hs
  | write addr v => exact hostCall_write_wf hs free addr v
  | clear => exact s.clear_wf
  | getReg | getFlag | lookup => exact hs

end Sys2Proof.Machine
end
